-- ==== Sys2Proof/Word.lean ====
section
/-! DEFINITION. The two word types of the machine: a byte (all data) and a 16-bit word (all addresses). Rule R5, R8. -/

namespace Sys2Proof

/-- Eight bits: every register but PC, every memory cell (R5). -/
abbrev Byte := BitVec 8

/-- Sixteen bits: PC and every address (R5). -/
abbrev Word := BitVec 16

end Sys2Proof
end

