-- ==== Sys2Proof/Config.lean ====
section
/-! DEFINITION. The three named parameters of rule R6, at the values this hardware has. No other quantity is open. -/

namespace Sys2Proof

/-- `RUN_ADDR`: where Load copies a program to and what Reset puts in PC (R6, decision D2). -/
def Config.runAddr : Word := 0x0600

/-- `BRK_VECTOR`: the address of the word BRK loads into PC (R6, decision D7). -/
def Config.brkVector : Word := 0xFFFE

/-- DESIGN CHOICE (log 1, unsafe): what a byte of memory that nothing has written reads as. `MEM_INIT` is left OPEN by
R6 and R40; this is the instance they recommend, every byte 0x00. -/
def Config.memInit : Byte := 0x00

end Sys2Proof
end

