-- ==== Sys2Proof/Syntax.lean ====
section
/-! DEFINITION. Syntax: the 56 mnemonics, the thirteen formats (R81), the operand forms, and `Instr`, the ONE inductive
with one constructor per row of `spec/opcode_table.json` (R87 to R92). A one-byte operand is a `Byte`, the operand word
of a three-byte format is the assembled `Word` (R85). -/

namespace Sys2Proof

/-- The 56 mnemonics of the documented instruction set (R93), family by family. -/
inductive Mnemonic where
  -- 41_load_store_transfer.md
  | lda | ldx | ldy | sta | stx | sty | tax | tay | txa | tya | tsx | txs
  -- 42_arithmetic_logic.md
  | adc | sbc | and | ora | eor | bit | cmp | cpx | cpy | inc | dec | inx | iny | dex | dey
  -- 43_shift_rotate.md
  | asl | lsr | rol | ror
  -- 44_control_transfer.md
  | bcc | bcs | beq | bmi | bne | bpl | bvc | bvs | jmp | jsr | rts
  -- 45_stack_flags_system.md
  | pha | pla | php | plp | clc | sec | cli | sei | cld | sed | clv | nop | brk | rti
  deriving DecidableEq, Repr

/-- The thirteen formats (R81). -/
inductive Format where
  | imp | acc | imm | zp | zpx | zpy | abs | absx | absy | indx | indy | ind | rel
  deriving DecidableEq, Repr

/-- The length in bytes of an instruction of each format (R81, R86). -/
def Format.length : Format → Nat
  | .imp | .acc => 1
  | .imm | .zp | .zpx | .zpy | .indx | .indy | .rel => 2
  | .abs | .absx | .absy | .ind => 3

/-- The eight formats whose operand is a byte of memory, with their operand bytes (R113 to R120). -/
inductive MemForm where
  | zp (b : Byte)
  | zpx (b : Byte)
  | zpy (b : Byte)
  | abs (w : Word)
  | absx (w : Word)
  | absy (w : Word)
  | indx (b : Byte)
  | indy (b : Byte)
  deriving DecidableEq, Repr

/-- The format of a memory operand (R81). -/
def MemForm.format : MemForm → Format
  | .zp _ => .zp
  | .zpx _ => .zpx
  | .zpy _ => .zpy
  | .abs _ => .abs
  | .absx _ => .absx
  | .absy _ => .absy
  | .indx _ => .indx
  | .indy _ => .indy

/-- Where an instruction that only reads its operand finds it: in the instruction, or in memory (R124). -/
inductive Source where
  | imm (b : Byte)
  | mem (f : MemForm)
  deriving DecidableEq, Repr

/-- Where a shift or rotate finds its operand and puts its result: register A, or memory (R180). -/
inductive Place where
  | acc
  | mem (f : MemForm)
  deriving DecidableEq, Repr

/-- The operand of any instruction: one of the thirteen formats with its operand bytes. `target` is format ABS of JMP
and JSR, where the word is the target and nothing is read at it (R116). -/
inductive Operand where
  | imp
  | acc
  | imm (b : Byte)
  | mem (f : MemForm)
  | target (w : Word)
  | ind (w : Word)
  | rel (b : Byte)
  deriving DecidableEq, Repr

/-- The format of an operand (R81). -/
def Operand.format : Operand → Format
  | .imp => .imp
  | .acc => .acc
  | .imm _ => .imm
  | .mem f => f.format
  | .target _ => .abs
  | .ind _ => .ind
  | .rel _ => .rel

/-- The documented instruction set: one constructor per opcode byte (R87 to R92). -/
inductive Instr where
  -- 41_load_store_transfer.md
  | ldaImm (b : Byte)
  | ldaZp (b : Byte)
  | ldaZpx (b : Byte)
  | ldaAbs (w : Word)
  | ldaAbsx (w : Word)
  | ldaAbsy (w : Word)
  | ldaIndx (b : Byte)
  | ldaIndy (b : Byte)
  | ldxImm (b : Byte)
  | ldxZp (b : Byte)
  | ldxZpy (b : Byte)
  | ldxAbs (w : Word)
  | ldxAbsy (w : Word)
  | ldyImm (b : Byte)
  | ldyZp (b : Byte)
  | ldyZpx (b : Byte)
  | ldyAbs (w : Word)
  | ldyAbsx (w : Word)
  | staZp (b : Byte)
  | staZpx (b : Byte)
  | staAbs (w : Word)
  | staAbsx (w : Word)
  | staAbsy (w : Word)
  | staIndx (b : Byte)
  | staIndy (b : Byte)
  | stxZp (b : Byte)
  | stxZpy (b : Byte)
  | stxAbs (w : Word)
  | styZp (b : Byte)
  | styZpx (b : Byte)
  | styAbs (w : Word)
  | tax
  | tay
  | txa
  | tya
  | tsx
  | txs
  -- 42_arithmetic_logic.md
  | adcImm (b : Byte)
  | adcZp (b : Byte)
  | adcZpx (b : Byte)
  | adcAbs (w : Word)
  | adcAbsx (w : Word)
  | adcAbsy (w : Word)
  | adcIndx (b : Byte)
  | adcIndy (b : Byte)
  | sbcImm (b : Byte)
  | sbcZp (b : Byte)
  | sbcZpx (b : Byte)
  | sbcAbs (w : Word)
  | sbcAbsx (w : Word)
  | sbcAbsy (w : Word)
  | sbcIndx (b : Byte)
  | sbcIndy (b : Byte)
  | andImm (b : Byte)
  | andZp (b : Byte)
  | andZpx (b : Byte)
  | andAbs (w : Word)
  | andAbsx (w : Word)
  | andAbsy (w : Word)
  | andIndx (b : Byte)
  | andIndy (b : Byte)
  | oraImm (b : Byte)
  | oraZp (b : Byte)
  | oraZpx (b : Byte)
  | oraAbs (w : Word)
  | oraAbsx (w : Word)
  | oraAbsy (w : Word)
  | oraIndx (b : Byte)
  | oraIndy (b : Byte)
  | eorImm (b : Byte)
  | eorZp (b : Byte)
  | eorZpx (b : Byte)
  | eorAbs (w : Word)
  | eorAbsx (w : Word)
  | eorAbsy (w : Word)
  | eorIndx (b : Byte)
  | eorIndy (b : Byte)
  | bitZp (b : Byte)
  | bitAbs (w : Word)
  | cmpImm (b : Byte)
  | cmpZp (b : Byte)
  | cmpZpx (b : Byte)
  | cmpAbs (w : Word)
  | cmpAbsx (w : Word)
  | cmpAbsy (w : Word)
  | cmpIndx (b : Byte)
  | cmpIndy (b : Byte)
  | cpxImm (b : Byte)
  | cpxZp (b : Byte)
  | cpxAbs (w : Word)
  | cpyImm (b : Byte)
  | cpyZp (b : Byte)
  | cpyAbs (w : Word)
  | incZp (b : Byte)
  | incZpx (b : Byte)
  | incAbs (w : Word)
  | incAbsx (w : Word)
  | decZp (b : Byte)
  | decZpx (b : Byte)
  | decAbs (w : Word)
  | decAbsx (w : Word)
  | inx
  | iny
  | dex
  | dey
  -- 43_shift_rotate.md
  | aslAcc
  | aslZp (b : Byte)
  | aslZpx (b : Byte)
  | aslAbs (w : Word)
  | aslAbsx (w : Word)
  | lsrAcc
  | lsrZp (b : Byte)
  | lsrZpx (b : Byte)
  | lsrAbs (w : Word)
  | lsrAbsx (w : Word)
  | rolAcc
  | rolZp (b : Byte)
  | rolZpx (b : Byte)
  | rolAbs (w : Word)
  | rolAbsx (w : Word)
  | rorAcc
  | rorZp (b : Byte)
  | rorZpx (b : Byte)
  | rorAbs (w : Word)
  | rorAbsx (w : Word)
  -- 44_control_transfer.md
  | bcc (b : Byte)
  | bcs (b : Byte)
  | beq (b : Byte)
  | bmi (b : Byte)
  | bne (b : Byte)
  | bpl (b : Byte)
  | bvc (b : Byte)
  | bvs (b : Byte)
  | jmpAbs (w : Word)
  | jmpInd (w : Word)
  | jsr (w : Word)
  | rts
  -- 45_stack_flags_system.md
  | pha
  | pla
  | php
  | plp
  | clc
  | sec
  | cli
  | sei
  | cld
  | sed
  | clv
  | nop
  | brk
  | rti
  deriving DecidableEq, Repr

/-- The mnemonic of an instruction. -/
def Instr.mnemonic : Instr → Mnemonic
  | .ldaImm _ | .ldaZp _ | .ldaZpx _ | .ldaAbs _ | .ldaAbsx _ | .ldaAbsy _ | .ldaIndx _ | .ldaIndy _ => .lda
  | .ldxImm _ | .ldxZp _ | .ldxZpy _ | .ldxAbs _ | .ldxAbsy _ => .ldx
  | .ldyImm _ | .ldyZp _ | .ldyZpx _ | .ldyAbs _ | .ldyAbsx _ => .ldy
  | .staZp _ | .staZpx _ | .staAbs _ | .staAbsx _ | .staAbsy _ | .staIndx _ | .staIndy _ => .sta
  | .stxZp _ | .stxZpy _ | .stxAbs _ => .stx
  | .styZp _ | .styZpx _ | .styAbs _ => .sty
  | .tax => .tax
  | .tay => .tay
  | .txa => .txa
  | .tya => .tya
  | .tsx => .tsx
  | .txs => .txs
  | .adcImm _ | .adcZp _ | .adcZpx _ | .adcAbs _ | .adcAbsx _ | .adcAbsy _ | .adcIndx _ | .adcIndy _ => .adc
  | .sbcImm _ | .sbcZp _ | .sbcZpx _ | .sbcAbs _ | .sbcAbsx _ | .sbcAbsy _ | .sbcIndx _ | .sbcIndy _ => .sbc
  | .andImm _ | .andZp _ | .andZpx _ | .andAbs _ | .andAbsx _ | .andAbsy _ | .andIndx _ | .andIndy _ => .and
  | .oraImm _ | .oraZp _ | .oraZpx _ | .oraAbs _ | .oraAbsx _ | .oraAbsy _ | .oraIndx _ | .oraIndy _ => .ora
  | .eorImm _ | .eorZp _ | .eorZpx _ | .eorAbs _ | .eorAbsx _ | .eorAbsy _ | .eorIndx _ | .eorIndy _ => .eor
  | .bitZp _ | .bitAbs _ => .bit
  | .cmpImm _ | .cmpZp _ | .cmpZpx _ | .cmpAbs _ | .cmpAbsx _ | .cmpAbsy _ | .cmpIndx _ | .cmpIndy _ => .cmp
  | .cpxImm _ | .cpxZp _ | .cpxAbs _ => .cpx
  | .cpyImm _ | .cpyZp _ | .cpyAbs _ => .cpy
  | .incZp _ | .incZpx _ | .incAbs _ | .incAbsx _ => .inc
  | .decZp _ | .decZpx _ | .decAbs _ | .decAbsx _ => .dec
  | .inx => .inx
  | .iny => .iny
  | .dex => .dex
  | .dey => .dey
  | .aslAcc | .aslZp _ | .aslZpx _ | .aslAbs _ | .aslAbsx _ => .asl
  | .lsrAcc | .lsrZp _ | .lsrZpx _ | .lsrAbs _ | .lsrAbsx _ => .lsr
  | .rolAcc | .rolZp _ | .rolZpx _ | .rolAbs _ | .rolAbsx _ => .rol
  | .rorAcc | .rorZp _ | .rorZpx _ | .rorAbs _ | .rorAbsx _ => .ror
  | .bcc _ => .bcc
  | .bcs _ => .bcs
  | .beq _ => .beq
  | .bmi _ => .bmi
  | .bne _ => .bne
  | .bpl _ => .bpl
  | .bvc _ => .bvc
  | .bvs _ => .bvs
  | .jmpAbs _ | .jmpInd _ => .jmp
  | .jsr _ => .jsr
  | .rts => .rts
  | .pha => .pha
  | .pla => .pla
  | .php => .php
  | .plp => .plp
  | .clc => .clc
  | .sec => .sec
  | .cli => .cli
  | .sei => .sei
  | .cld => .cld
  | .sed => .sed
  | .clv => .clv
  | .nop => .nop
  | .brk => .brk
  | .rti => .rti

/-- The operand of an instruction. -/
def Instr.operand : Instr → Operand
  | .ldaImm b => .imm b
  | .ldaZp b => .mem (.zp b)
  | .ldaZpx b => .mem (.zpx b)
  | .ldaAbs w => .mem (.abs w)
  | .ldaAbsx w => .mem (.absx w)
  | .ldaAbsy w => .mem (.absy w)
  | .ldaIndx b => .mem (.indx b)
  | .ldaIndy b => .mem (.indy b)
  | .ldxImm b => .imm b
  | .ldxZp b => .mem (.zp b)
  | .ldxZpy b => .mem (.zpy b)
  | .ldxAbs w => .mem (.abs w)
  | .ldxAbsy w => .mem (.absy w)
  | .ldyImm b => .imm b
  | .ldyZp b => .mem (.zp b)
  | .ldyZpx b => .mem (.zpx b)
  | .ldyAbs w => .mem (.abs w)
  | .ldyAbsx w => .mem (.absx w)
  | .staZp b => .mem (.zp b)
  | .staZpx b => .mem (.zpx b)
  | .staAbs w => .mem (.abs w)
  | .staAbsx w => .mem (.absx w)
  | .staAbsy w => .mem (.absy w)
  | .staIndx b => .mem (.indx b)
  | .staIndy b => .mem (.indy b)
  | .stxZp b => .mem (.zp b)
  | .stxZpy b => .mem (.zpy b)
  | .stxAbs w => .mem (.abs w)
  | .styZp b => .mem (.zp b)
  | .styZpx b => .mem (.zpx b)
  | .styAbs w => .mem (.abs w)
  | .tax => .imp
  | .tay => .imp
  | .txa => .imp
  | .tya => .imp
  | .tsx => .imp
  | .txs => .imp
  | .adcImm b => .imm b
  | .adcZp b => .mem (.zp b)
  | .adcZpx b => .mem (.zpx b)
  | .adcAbs w => .mem (.abs w)
  | .adcAbsx w => .mem (.absx w)
  | .adcAbsy w => .mem (.absy w)
  | .adcIndx b => .mem (.indx b)
  | .adcIndy b => .mem (.indy b)
  | .sbcImm b => .imm b
  | .sbcZp b => .mem (.zp b)
  | .sbcZpx b => .mem (.zpx b)
  | .sbcAbs w => .mem (.abs w)
  | .sbcAbsx w => .mem (.absx w)
  | .sbcAbsy w => .mem (.absy w)
  | .sbcIndx b => .mem (.indx b)
  | .sbcIndy b => .mem (.indy b)
  | .andImm b => .imm b
  | .andZp b => .mem (.zp b)
  | .andZpx b => .mem (.zpx b)
  | .andAbs w => .mem (.abs w)
  | .andAbsx w => .mem (.absx w)
  | .andAbsy w => .mem (.absy w)
  | .andIndx b => .mem (.indx b)
  | .andIndy b => .mem (.indy b)
  | .oraImm b => .imm b
  | .oraZp b => .mem (.zp b)
  | .oraZpx b => .mem (.zpx b)
  | .oraAbs w => .mem (.abs w)
  | .oraAbsx w => .mem (.absx w)
  | .oraAbsy w => .mem (.absy w)
  | .oraIndx b => .mem (.indx b)
  | .oraIndy b => .mem (.indy b)
  | .eorImm b => .imm b
  | .eorZp b => .mem (.zp b)
  | .eorZpx b => .mem (.zpx b)
  | .eorAbs w => .mem (.abs w)
  | .eorAbsx w => .mem (.absx w)
  | .eorAbsy w => .mem (.absy w)
  | .eorIndx b => .mem (.indx b)
  | .eorIndy b => .mem (.indy b)
  | .bitZp b => .mem (.zp b)
  | .bitAbs w => .mem (.abs w)
  | .cmpImm b => .imm b
  | .cmpZp b => .mem (.zp b)
  | .cmpZpx b => .mem (.zpx b)
  | .cmpAbs w => .mem (.abs w)
  | .cmpAbsx w => .mem (.absx w)
  | .cmpAbsy w => .mem (.absy w)
  | .cmpIndx b => .mem (.indx b)
  | .cmpIndy b => .mem (.indy b)
  | .cpxImm b => .imm b
  | .cpxZp b => .mem (.zp b)
  | .cpxAbs w => .mem (.abs w)
  | .cpyImm b => .imm b
  | .cpyZp b => .mem (.zp b)
  | .cpyAbs w => .mem (.abs w)
  | .incZp b => .mem (.zp b)
  | .incZpx b => .mem (.zpx b)
  | .incAbs w => .mem (.abs w)
  | .incAbsx w => .mem (.absx w)
  | .decZp b => .mem (.zp b)
  | .decZpx b => .mem (.zpx b)
  | .decAbs w => .mem (.abs w)
  | .decAbsx w => .mem (.absx w)
  | .inx => .imp
  | .iny => .imp
  | .dex => .imp
  | .dey => .imp
  | .aslAcc => .acc
  | .aslZp b => .mem (.zp b)
  | .aslZpx b => .mem (.zpx b)
  | .aslAbs w => .mem (.abs w)
  | .aslAbsx w => .mem (.absx w)
  | .lsrAcc => .acc
  | .lsrZp b => .mem (.zp b)
  | .lsrZpx b => .mem (.zpx b)
  | .lsrAbs w => .mem (.abs w)
  | .lsrAbsx w => .mem (.absx w)
  | .rolAcc => .acc
  | .rolZp b => .mem (.zp b)
  | .rolZpx b => .mem (.zpx b)
  | .rolAbs w => .mem (.abs w)
  | .rolAbsx w => .mem (.absx w)
  | .rorAcc => .acc
  | .rorZp b => .mem (.zp b)
  | .rorZpx b => .mem (.zpx b)
  | .rorAbs w => .mem (.abs w)
  | .rorAbsx w => .mem (.absx w)
  | .bcc b => .rel b
  | .bcs b => .rel b
  | .beq b => .rel b
  | .bmi b => .rel b
  | .bne b => .rel b
  | .bpl b => .rel b
  | .bvc b => .rel b
  | .bvs b => .rel b
  | .jmpAbs w => .target w
  | .jmpInd w => .ind w
  | .jsr w => .target w
  | .rts => .imp
  | .pha => .imp
  | .pla => .imp
  | .php => .imp
  | .plp => .imp
  | .clc => .imp
  | .sec => .imp
  | .cli => .imp
  | .sei => .imp
  | .cld => .imp
  | .sed => .imp
  | .clv => .imp
  | .nop => .imp
  | .brk => .imp
  | .rti => .imp

/-- The format of an instruction. -/
def Instr.format (i : Instr) : Format := i.operand.format

/-- The length of an instruction in bytes (R86). -/
def Instr.length (i : Instr) : Nat := i.format.length

/-- What the opcode table binds to an opcode byte (R35, R80). `pageCrossExtra` is the `+p` of R281. -/
structure Descriptor where
  mnemonic : Mnemonic
  format : Format
  length : Nat
  baseCycles : Nat
  pageCrossExtra : Bool
  deriving DecidableEq, Repr

end Sys2Proof
end

