-- ==== Sys2Proof/WellFormed.lean ====
section
/-! DEFINITION. Well-formedness: which formats each mnemonic admits (R88 to R92), and the checks on an opcode
descriptor (R81, R86, R281). Operand bytes have no reserved values (R95), so an `Instr`, whose constructors are the
admitted pairs, has nothing else to check; `Instr.wellFormed` says that its mnemonic and format are an admitted pair. -/

namespace Sys2Proof

/-- The formats of each mnemonic, as the lists of R88 to R92 give them. -/
def Mnemonic.formats : Mnemonic → List Format
  | .lda | .adc | .sbc | .and | .ora | .eor | .cmp => [.imm, .zp, .zpx, .abs, .absx, .absy, .indx, .indy]
  | .ldx => [.imm, .zp, .zpy, .abs, .absy]
  | .ldy => [.imm, .zp, .zpx, .abs, .absx]
  | .sta => [.zp, .zpx, .abs, .absx, .absy, .indx, .indy]
  | .stx => [.zp, .zpy, .abs]
  | .sty => [.zp, .zpx, .abs]
  | .tax | .tay | .txa | .tya | .tsx | .txs | .inx | .iny | .dex | .dey | .rts | .pha | .pla | .php
  | .plp | .clc | .sec | .cli | .sei | .cld | .sed | .clv | .nop | .brk | .rti => [.imp]
  | .bit => [.zp, .abs]
  | .cpx | .cpy => [.imm, .zp, .abs]
  | .inc | .dec => [.zp, .zpx, .abs, .absx]
  | .asl | .lsr | .rol | .ror => [.acc, .zp, .zpx, .abs, .absx]
  | .bcc | .bcs | .beq | .bmi | .bne | .bpl | .bvc | .bvs => [.rel]
  | .jmp => [.abs, .ind]
  | .jsr => [.abs]

/-- The mnemonic has that format (R88 to R92). -/
def admits (m : Mnemonic) (f : Format) : Bool := m.formats.contains f

/-- An instruction is well formed when its mnemonic admits its format. -/
def Instr.wellFormed (i : Instr) : Bool := admits i.mnemonic i.format

/-- A descriptor is well formed when its mnemonic admits its format, its length is the format's (R86), its base cycles
lie in the range of R281, and only an indexed read is charged for a page crossing (R281). -/
def Descriptor.wellFormed (d : Descriptor) : Bool :=
  admits d.mnemonic d.format
    && d.length == d.format.length
    && (2 ≤ d.baseCycles && d.baseCycles ≤ 7)
    && (!d.pageCrossExtra || [Format.absx, .absy, .indy].contains d.format)

end Sys2Proof
end

