-- ==== Sys2Proof/Decode.lean ====
section
/-! DEFINITION. Decoding (R80 to R86): the opcode map of R87 as a grid, read by the opcode byte alone, and the decoder
over a list of bytes, total and rejecting by name. After it the encoder, written from the lists by mnemonic of R88 to
R92, and the opcode table of R35 with the base cycle counts of R281, which no step reads. -/

namespace Sys2Proof

/-- `h ++ l` of R8: the word with high byte `h` and low byte `l`. -/
def joinBytes (h l : Byte) : Word := h ++ l

/-- `w[7:0]` (R8). -/
def lowByte (w : Word) : Byte := w.extractLsb' 0 8

/-- `w[15:8]` (R8). -/
def highByte (w : Word) : Byte := w.extractLsb' 8 8

/-- Why bytes are no instruction. -/
inductive DecodeError where
  /-- The first byte has no entry in the opcode table (R94). -/
  | unknownOpcode (byte : Byte)
  /-- The list ends before the operand bytes the opcode asks for; memory never ends, so no step sees this. -/
  | truncated
  deriving DecidableEq, Repr

/-- One cell of the opcode map: no entry, or the instruction with the operand it still needs (R82 to R84). -/
inductive Cell where
  | unknown
  | one (i : Instr)
  | two (mk : Byte → Instr)
  | three (mk : Word → Instr)

/-- Row 0x of the grid of R87. -/
def opcodeRow0 : List Cell :=
  [.one .brk, .two .oraIndx, .unknown, .unknown,
   .unknown, .two .oraZp, .two .aslZp, .unknown,
   .one .php, .two .oraImm, .one .aslAcc, .unknown,
   .unknown, .three .oraAbs, .three .aslAbs, .unknown]

/-- Row 1x of the grid of R87. -/
def opcodeRow1 : List Cell :=
  [.two .bpl, .two .oraIndy, .unknown, .unknown,
   .unknown, .two .oraZpx, .two .aslZpx, .unknown,
   .one .clc, .three .oraAbsy, .unknown, .unknown,
   .unknown, .three .oraAbsx, .three .aslAbsx, .unknown]

/-- Row 2x of the grid of R87. -/
def opcodeRow2 : List Cell :=
  [.three .jsr, .two .andIndx, .unknown, .unknown,
   .two .bitZp, .two .andZp, .two .rolZp, .unknown,
   .one .plp, .two .andImm, .one .rolAcc, .unknown,
   .three .bitAbs, .three .andAbs, .three .rolAbs, .unknown]

/-- Row 3x of the grid of R87. -/
def opcodeRow3 : List Cell :=
  [.two .bmi, .two .andIndy, .unknown, .unknown,
   .unknown, .two .andZpx, .two .rolZpx, .unknown,
   .one .sec, .three .andAbsy, .unknown, .unknown,
   .unknown, .three .andAbsx, .three .rolAbsx, .unknown]

/-- Row 4x of the grid of R87. -/
def opcodeRow4 : List Cell :=
  [.one .rti, .two .eorIndx, .unknown, .unknown,
   .unknown, .two .eorZp, .two .lsrZp, .unknown,
   .one .pha, .two .eorImm, .one .lsrAcc, .unknown,
   .three .jmpAbs, .three .eorAbs, .three .lsrAbs, .unknown]

/-- Row 5x of the grid of R87. -/
def opcodeRow5 : List Cell :=
  [.two .bvc, .two .eorIndy, .unknown, .unknown,
   .unknown, .two .eorZpx, .two .lsrZpx, .unknown,
   .one .cli, .three .eorAbsy, .unknown, .unknown,
   .unknown, .three .eorAbsx, .three .lsrAbsx, .unknown]

/-- Row 6x of the grid of R87. -/
def opcodeRow6 : List Cell :=
  [.one .rts, .two .adcIndx, .unknown, .unknown,
   .unknown, .two .adcZp, .two .rorZp, .unknown,
   .one .pla, .two .adcImm, .one .rorAcc, .unknown,
   .three .jmpInd, .three .adcAbs, .three .rorAbs, .unknown]

/-- Row 7x of the grid of R87. -/
def opcodeRow7 : List Cell :=
  [.two .bvs, .two .adcIndy, .unknown, .unknown,
   .unknown, .two .adcZpx, .two .rorZpx, .unknown,
   .one .sei, .three .adcAbsy, .unknown, .unknown,
   .unknown, .three .adcAbsx, .three .rorAbsx, .unknown]

/-- Row 8x of the grid of R87. -/
def opcodeRow8 : List Cell :=
  [.unknown, .two .staIndx, .unknown, .unknown,
   .two .styZp, .two .staZp, .two .stxZp, .unknown,
   .one .dey, .unknown, .one .txa, .unknown,
   .three .styAbs, .three .staAbs, .three .stxAbs, .unknown]

/-- Row 9x of the grid of R87. -/
def opcodeRow9 : List Cell :=
  [.two .bcc, .two .staIndy, .unknown, .unknown,
   .two .styZpx, .two .staZpx, .two .stxZpy, .unknown,
   .one .tya, .three .staAbsy, .one .txs, .unknown,
   .unknown, .three .staAbsx, .unknown, .unknown]

/-- Row Ax of the grid of R87. -/
def opcodeRowA : List Cell :=
  [.two .ldyImm, .two .ldaIndx, .two .ldxImm, .unknown,
   .two .ldyZp, .two .ldaZp, .two .ldxZp, .unknown,
   .one .tay, .two .ldaImm, .one .tax, .unknown,
   .three .ldyAbs, .three .ldaAbs, .three .ldxAbs, .unknown]

/-- Row Bx of the grid of R87. -/
def opcodeRowB : List Cell :=
  [.two .bcs, .two .ldaIndy, .unknown, .unknown,
   .two .ldyZpx, .two .ldaZpx, .two .ldxZpy, .unknown,
   .one .clv, .three .ldaAbsy, .one .tsx, .unknown,
   .three .ldyAbsx, .three .ldaAbsx, .three .ldxAbsy, .unknown]

/-- Row Cx of the grid of R87. -/
def opcodeRowC : List Cell :=
  [.two .cpyImm, .two .cmpIndx, .unknown, .unknown,
   .two .cpyZp, .two .cmpZp, .two .decZp, .unknown,
   .one .iny, .two .cmpImm, .one .dex, .unknown,
   .three .cpyAbs, .three .cmpAbs, .three .decAbs, .unknown]

/-- Row Dx of the grid of R87. -/
def opcodeRowD : List Cell :=
  [.two .bne, .two .cmpIndy, .unknown, .unknown,
   .unknown, .two .cmpZpx, .two .decZpx, .unknown,
   .one .cld, .three .cmpAbsy, .unknown, .unknown,
   .unknown, .three .cmpAbsx, .three .decAbsx, .unknown]

/-- Row Ex of the grid of R87. -/
def opcodeRowE : List Cell :=
  [.two .cpxImm, .two .sbcIndx, .unknown, .unknown,
   .two .cpxZp, .two .sbcZp, .two .incZp, .unknown,
   .one .inx, .two .sbcImm, .one .nop, .unknown,
   .three .cpxAbs, .three .sbcAbs, .three .incAbs, .unknown]

/-- Row Fx of the grid of R87. -/
def opcodeRowF : List Cell :=
  [.two .beq, .two .sbcIndy, .unknown, .unknown,
   .unknown, .two .sbcZpx, .two .incZpx, .unknown,
   .one .sed, .three .sbcAbsy, .unknown, .unknown,
   .unknown, .three .sbcAbsx, .three .incAbsx, .unknown]

/-- The opcode map: row by the high nibble, column by the low nibble (R87). -/
def opcodeGrid : List (List Cell) :=
  [opcodeRow0, opcodeRow1, opcodeRow2, opcodeRow3, opcodeRow4, opcodeRow5, opcodeRow6, opcodeRow7]
    ++ [opcodeRow8, opcodeRow9, opcodeRowA, opcodeRowB, opcodeRowC, opcodeRowD, opcodeRowE, opcodeRowF]

/-- The entry of an opcode byte (R80, R87). -/
def opcodeCell (op : Byte) : Cell :=
  (opcodeGrid.getD (op.toNat / 16) []).getD (op.toNat % 16) .unknown

/-- The first instruction of a list of bytes, and the bytes after it (R80, R85, R86): operand low byte first. -/
def decode : List Byte → Except DecodeError (Instr × List Byte)
  | [] => .error .truncated
  | op :: rest =>
    match opcodeCell op, rest with
    | .unknown, _ => .error (.unknownOpcode op)
    | .one i, rest => .ok (i, rest)
    | .two mk, b :: rest => .ok (mk b, rest)
    | .two _, [] => .error .truncated
    | .three mk, lo :: hi :: rest => .ok (mk (joinBytes hi lo), rest)
    | .three _, _ => .error .truncated

/-- The opcode byte of an instruction, as the lists by mnemonic of R88 to R92 give it. -/
def Instr.opcode : Instr → Byte
  | .ldaImm _ => 0xA9
  | .ldaZp _ => 0xA5
  | .ldaZpx _ => 0xB5
  | .ldaAbs _ => 0xAD
  | .ldaAbsx _ => 0xBD
  | .ldaAbsy _ => 0xB9
  | .ldaIndx _ => 0xA1
  | .ldaIndy _ => 0xB1
  | .ldxImm _ => 0xA2
  | .ldxZp _ => 0xA6
  | .ldxZpy _ => 0xB6
  | .ldxAbs _ => 0xAE
  | .ldxAbsy _ => 0xBE
  | .ldyImm _ => 0xA0
  | .ldyZp _ => 0xA4
  | .ldyZpx _ => 0xB4
  | .ldyAbs _ => 0xAC
  | .ldyAbsx _ => 0xBC
  | .staZp _ => 0x85
  | .staZpx _ => 0x95
  | .staAbs _ => 0x8D
  | .staAbsx _ => 0x9D
  | .staAbsy _ => 0x99
  | .staIndx _ => 0x81
  | .staIndy _ => 0x91
  | .stxZp _ => 0x86
  | .stxZpy _ => 0x96
  | .stxAbs _ => 0x8E
  | .styZp _ => 0x84
  | .styZpx _ => 0x94
  | .styAbs _ => 0x8C
  | .tax => 0xAA
  | .tay => 0xA8
  | .txa => 0x8A
  | .tya => 0x98
  | .tsx => 0xBA
  | .txs => 0x9A
  | .adcImm _ => 0x69
  | .adcZp _ => 0x65
  | .adcZpx _ => 0x75
  | .adcAbs _ => 0x6D
  | .adcAbsx _ => 0x7D
  | .adcAbsy _ => 0x79
  | .adcIndx _ => 0x61
  | .adcIndy _ => 0x71
  | .sbcImm _ => 0xE9
  | .sbcZp _ => 0xE5
  | .sbcZpx _ => 0xF5
  | .sbcAbs _ => 0xED
  | .sbcAbsx _ => 0xFD
  | .sbcAbsy _ => 0xF9
  | .sbcIndx _ => 0xE1
  | .sbcIndy _ => 0xF1
  | .andImm _ => 0x29
  | .andZp _ => 0x25
  | .andZpx _ => 0x35
  | .andAbs _ => 0x2D
  | .andAbsx _ => 0x3D
  | .andAbsy _ => 0x39
  | .andIndx _ => 0x21
  | .andIndy _ => 0x31
  | .oraImm _ => 0x09
  | .oraZp _ => 0x05
  | .oraZpx _ => 0x15
  | .oraAbs _ => 0x0D
  | .oraAbsx _ => 0x1D
  | .oraAbsy _ => 0x19
  | .oraIndx _ => 0x01
  | .oraIndy _ => 0x11
  | .eorImm _ => 0x49
  | .eorZp _ => 0x45
  | .eorZpx _ => 0x55
  | .eorAbs _ => 0x4D
  | .eorAbsx _ => 0x5D
  | .eorAbsy _ => 0x59
  | .eorIndx _ => 0x41
  | .eorIndy _ => 0x51
  | .bitZp _ => 0x24
  | .bitAbs _ => 0x2C
  | .cmpImm _ => 0xC9
  | .cmpZp _ => 0xC5
  | .cmpZpx _ => 0xD5
  | .cmpAbs _ => 0xCD
  | .cmpAbsx _ => 0xDD
  | .cmpAbsy _ => 0xD9
  | .cmpIndx _ => 0xC1
  | .cmpIndy _ => 0xD1
  | .cpxImm _ => 0xE0
  | .cpxZp _ => 0xE4
  | .cpxAbs _ => 0xEC
  | .cpyImm _ => 0xC0
  | .cpyZp _ => 0xC4
  | .cpyAbs _ => 0xCC
  | .incZp _ => 0xE6
  | .incZpx _ => 0xF6
  | .incAbs _ => 0xEE
  | .incAbsx _ => 0xFE
  | .decZp _ => 0xC6
  | .decZpx _ => 0xD6
  | .decAbs _ => 0xCE
  | .decAbsx _ => 0xDE
  | .inx => 0xE8
  | .iny => 0xC8
  | .dex => 0xCA
  | .dey => 0x88
  | .aslAcc => 0x0A
  | .aslZp _ => 0x06
  | .aslZpx _ => 0x16
  | .aslAbs _ => 0x0E
  | .aslAbsx _ => 0x1E
  | .lsrAcc => 0x4A
  | .lsrZp _ => 0x46
  | .lsrZpx _ => 0x56
  | .lsrAbs _ => 0x4E
  | .lsrAbsx _ => 0x5E
  | .rolAcc => 0x2A
  | .rolZp _ => 0x26
  | .rolZpx _ => 0x36
  | .rolAbs _ => 0x2E
  | .rolAbsx _ => 0x3E
  | .rorAcc => 0x6A
  | .rorZp _ => 0x66
  | .rorZpx _ => 0x76
  | .rorAbs _ => 0x6E
  | .rorAbsx _ => 0x7E
  | .bcc _ => 0x90
  | .bcs _ => 0xB0
  | .beq _ => 0xF0
  | .bmi _ => 0x30
  | .bne _ => 0xD0
  | .bpl _ => 0x10
  | .bvc _ => 0x50
  | .bvs _ => 0x70
  | .jmpAbs _ => 0x4C
  | .jmpInd _ => 0x6C
  | .jsr _ => 0x20
  | .rts => 0x60
  | .pha => 0x48
  | .pla => 0x68
  | .php => 0x08
  | .plp => 0x28
  | .clc => 0x18
  | .sec => 0x38
  | .cli => 0x58
  | .sei => 0x78
  | .cld => 0xD8
  | .sed => 0xF8
  | .clv => 0xB8
  | .nop => 0xEA
  | .brk => 0x00
  | .rti => 0x40

/-- The operand bytes of an instruction, low byte first (R83, R84). -/
def Operand.bytes : Operand → List Byte
  | .imp | .acc => []
  | .imm b | .rel b => [b]
  | .mem (.zp b) | .mem (.zpx b) | .mem (.zpy b) | .mem (.indx b) | .mem (.indy b) => [b]
  | .mem (.abs w) | .mem (.absx w) | .mem (.absy w) | .target w | .ind w => [lowByte w, highByte w]

/-- The bytes of an instruction in memory order (R82 to R84). -/
def encode (i : Instr) : List Byte := i.opcode :: i.operand.bytes

/-- The base cycle count of an opcode (R281); nothing reads it (R280). -/
def baseCycles (m : Mnemonic) (f : Format) : Nat :=
  match m, f with
  | .jsr, _ => 6
  | .jmp, .ind => 5
  | .jmp, _ => 3
  | .rts, _ | .rti, _ => 6
  | .brk, _ => 7
  | .pha, _ | .php, _ => 3
  | .pla, _ | .plp, _ => 4
  | .sta, .absx | .sta, .absy => 5
  | .sta, .indy => 6
  | .asl, .acc | .lsr, .acc | .rol, .acc | .ror, .acc => 2
  | .asl, f | .lsr, f | .rol, f | .ror, f | .inc, f | .dec, f =>
    match f with
    | .zp => 5
    | .absx => 7
    | _ => 6
  | _, .zp => 3
  | _, .zpx | _, .zpy | _, .abs | _, .absx | _, .absy => 4
  | _, .indx => 6
  | _, .indy => 5
  | _, .imp | _, .acc | _, .imm | _, .rel | _, .ind => 2

/-- The `+p` of R281: one more cycle on a page crossing for the indexed reads, never for stores or read-modify-write. -/
def pageCrossExtra (m : Mnemonic) (f : Format) : Bool :=
  match m, f with
  | .sta, _ | .asl, _ | .lsr, _ | .rol, _ | .ror, _ | .inc, _ | .dec, _ => false
  | _, .absx | _, .absy | _, .indy => true
  | _, _ => false

/-- The descriptor of an instruction. -/
def Instr.descriptor (i : Instr) : Descriptor :=
  { mnemonic := i.mnemonic
    format := i.format
    length := i.length
    baseCycles := baseCycles i.mnemonic i.format
    pageCrossExtra := pageCrossExtra i.mnemonic i.format }

/-- The opcode table (R35): 151 entries, absent elsewhere. -/
def opcodeTable (op : Byte) : Option Descriptor :=
  match opcodeCell op with
  | .unknown => none
  | .one i => some i.descriptor
  | .two mk => some (mk 0).descriptor
  | .three mk => some (mk 0).descriptor

/-- The first `n` bytes of a number, least significant first. -/
def bytesOfNat : Nat → Nat → List Byte
  | 0, _ => []
  | n + 1, w => BitVec.ofNat 8 w :: bytesOfNat n (w / 256)

/-- The three bytes of a table word: `nbits` bits of it, zeros above, first byte the least significant eight bits. -/
def tableWordBytes (nbits w : Nat) : List Byte := bytesOfNat 3 (w % 2 ^ nbits)

/-- The instruction the decoder reads from a table word laid out as the hardware stores it; none where it refuses. -/
def decodeTableWord (nbits w : Nat) : Option Instr :=
  match decode (tableWordBytes nbits w) with
  | .ok (i, _) => some i
  | .error _ => none

end Sys2Proof
end

