-- ==== Sys2Proof/Machine/Flags.lean ====
section
/-! DEFINITION. The status register P (R27 to R30) and every flag computation of the instruction rules: the adder of
R151, the compare of R159, BIT of R158, the one-bit shifts of R181 to R184. -/

namespace Sys2Proof.Machine

/-- The eight flags (R27). -/
inductive Flag where
  | n | v | b2 | b | d | i | z | c
  deriving DecidableEq, Repr

/-- The bit position of a flag in P (R27, D1). -/
def flagBit : Flag → Nat
  | .n => 7
  | .v => 6
  | .b2 => 5
  | .b => 4
  | .d => 3
  | .i => 2
  | .z => 1
  | .c => 0

/-- The mask of a flag (R27). -/
def flagMask (f : Flag) : Byte := 1#8 <<< flagBit f

/-- A flag of a status byte. -/
def getFlag (f : Flag) (p : Byte) : Bool := p.getLsbD (flagBit f)

/-- A status byte with one flag replaced. -/
def setFlag (f : Flag) (v : Bool) (p : Byte) : Byte :=
  if v then p ||| flagMask f else p &&& ~~~ flagMask f

/-- `SetNZ(v)`: Z from the byte being zero, N from its bit 7, nothing else (R30). -/
def setNZ (v p : Byte) : Byte := setFlag .n v.msb (setFlag .z (v == 0) p)

/-- The copy of P that PHP and BRK push: Break and Break2 forced to 1 (R29 (b)). -/
def statusCopy (p : Byte) : Byte := p ||| 0x30

/-- The status register after a pulled byte: bits 5 and 4 of it are ignored, Break2 stays 1 and Break 0 (R29 (c)). -/
def statusPulled (v : Byte) : Byte := (v &&& 0xCF) ||| 0x20

/-- What the adder answers (R151). -/
structure Sum where
  result : Byte
  carry : Bool
  overflow : Bool
  deriving DecidableEq, Repr

/-- `Add8(a, m, c)`: the exact sum, narrowed at the end (R151). -/
def add8 (a m : Byte) (c : Bool) : Sum :=
  let sum := a.toNat + m.toNat + c.toNat
  let r := BitVec.ofNat 8 sum
  { result := r
    carry := decide (255 < sum)
    overflow := (a ^^^ r) &&& (m ^^^ r) &&& 0x80 != 0 }

/-- The flags of ADC and SBC: C, V, Z, N from the adder (R152, R154). -/
def sumFlags (r : Sum) (p : Byte) : Byte :=
  setNZ r.result (setFlag .v r.overflow (setFlag .c r.carry p))

/-- The flags of `Compare(r, m)`: an internal subtraction, V untouched (R159). -/
def compareFlags (r m p : Byte) : Byte :=
  setFlag .n (r - m).msb (setFlag .z (r == m) (setFlag .c (decide (m.toNat ≤ r.toNat)) p))

/-- The flags of BIT: Z from `A & M`, N and V from bits 7 and 6 of M (R158). -/
def bitFlags (a m p : Byte) : Byte :=
  setFlag .v (m.getLsbD 6) (setFlag .n m.msb (setFlag .z (a &&& m == 0) p))

/-- What a one-bit shift answers: the result byte and the bit shifted out (R180). -/
structure Shifted where
  result : Byte
  out : Bool
  deriving DecidableEq, Repr

/-- ASL: bit 7 out, 0 in (R181). The carry going in is not used. -/
def aslByte (v : Byte) (_ : Bool) : Shifted := { result := v <<< 1, out := v.getLsbD 7 }

/-- LSR: bit 0 out, 0 in (R182). The carry going in is not used. -/
def lsrByte (v : Byte) (_ : Bool) : Shifted := { result := v >>> 1, out := v.getLsbD 0 }

/-- ROL: bit 7 out, the old carry in at bit 0 (R183). -/
def rolByte (v : Byte) (c : Bool) : Shifted :=
  { result := (v <<< 1) ||| (if c then 0x01 else 0x00), out := v.getLsbD 7 }

/-- ROR: bit 0 out, the old carry in at bit 7 (R184). -/
def rorByte (v : Byte) (c : Bool) : Shifted :=
  { result := (v >>> 1) ||| (if c then 0x80 else 0x00), out := v.getLsbD 0 }

/-- The flags of the four shifts: C from the bit shifted out, Z and N from the result (R180). -/
def shiftFlags (r : Shifted) (p : Byte) : Byte := setNZ r.result (setFlag .c r.out p)

end Sys2Proof.Machine
end

