-- ==== Sys2Proof/Machine/State.lean ====
section
/-! DEFINITION. The whole state of the machine as plain data (10_state.md: "Nothing else is state"), the reasons a step
can stop, and the state after Reset (R38). -/

namespace Sys2Proof.Machine

/-- The run state (R32). -/
inductive RunState where
  | reset
  | running
  | halted
  deriving DecidableEq, Repr

/-- Why the unit is halted; `none` while it is not (R33, R242). -/
inductive HaltCause where
  | none
  | brk
  | unknownOpcode
  | external
  deriving DecidableEq, Repr

/-- The report of an unknown opcode: the offending byte and the PC it was fetched at (R33). -/
structure FaultRecord where
  byte : Byte
  pc : Word
  deriving DecidableEq, Repr

/-- The 64 KiB memory (R34, R50): address and byte, addresses strictly rising, no entry equal to `Config.memInit`,
which every unlisted address reads as. -/
abbrev Memory := List Host.Cell

/-- The state tuple of 10_state.md. -/
structure State where
  /-- Accumulator A (R20). -/
  a : Byte
  /-- Index register X (R20). -/
  x : Byte
  /-- Index register Y (R20). -/
  y : Byte
  /-- Stack pointer SP (R24). -/
  sp : Byte
  /-- Program counter PC: between steps, the address of the next opcode byte (R21). -/
  pc : Word
  /-- Status register P: N V B2 B D I Z C from bit 7 to bit 0 (R27). -/
  p : Byte
  /-- RunState (R32). -/
  runState : RunState
  /-- HaltCause (R33). -/
  haltCause : HaltCause
  /-- FaultRecord, absent unless the cause is an unknown opcode (R33). -/
  faultRecord : Option FaultRecord
  /-- Mem (R34). -/
  mem : Memory
  deriving DecidableEq, Repr

/-- Why a step has no next state. -/
inductive Fault where
  /-- Raised by `step` alone, in a Halted state: Halted is terminal and takes no step (R254, U4). It says with which
  cause and which record the unit is halted. Safe: the spec gives no transition here, and no state is changed. -/
  | haltedNoStep (cause : HaltCause) (record : Option FaultRecord)
  deriving DecidableEq, Repr

/-- Why an instruction is refused. -/
inductive Refusal where
  /-- For an arm of `exec` that has no meaning yet. Nothing raises it: every instruction has its meaning. Safe. -/
  | notModelled (mnemonic : String)
  deriving DecidableEq, Repr

/-- The outcome of a step of this machine. -/
abbrev Outcome := Host.Outcome State Fault Refusal

/-- The machine right after Reset (R38), over the memory no Load has touched: every byte `MEM_INIT` (R40, log 1). -/
def State.reset : State :=
  { a := 0x00
    x := 0x00
    y := 0x00
    sp := 0xFD
    pc := Config.runAddr
    p := 0x24
    runState := .reset
    haltCause := .none
    faultRecord := Option.none
    mem := [] }

end Sys2Proof.Machine
end

