-- ==== Sys2Proof/Machine/Ops.lean ====
section
/-! DEFINITION. The named operations over memory and registers: the bus (R52 to R55), the stack (R24 to R26), fetching
(R10), the beginning of a step (R32), the two synchronous events and their entries (R241, R247) and the return from a
trap (R248). -/

namespace Sys2Proof.Machine

/-! ### Memory -/

/-- The byte at an address: the entry that names it, else `MEM_INIT`. The list rises, so the search stops at the first
larger address. -/
def memRead : Memory → Nat → Byte
  | [], _ => Config.memInit
  | (k, v) :: rest, a =>
    if a < k then Config.memInit else if a = k then v else memRead rest a

/-- Stores a byte and keeps the canonical form: storing what an unlisted address reads as leaves no entry. -/
def memWrite : Memory → Nat → Byte → Memory
  | [], a, v => if v = Config.memInit then [] else [(a, v)]
  | (k, w) :: rest, a, v =>
    if a < k then
      if v = Config.memInit then (k, w) :: rest else (a, v) :: (k, w) :: rest
    else if a = k then
      if v = Config.memInit then rest else (a, v) :: rest
    else (k, w) :: memWrite rest a v

/-- The canonical form from an address on: strictly rising below 65536, no entry equal to `MEM_INIT`. -/
def memWfFrom : Nat → Memory → Bool
  | _, [] => true
  | lo, (k, v) :: rest =>
    decide (lo ≤ k) && decide (k < 65536) && decide (v ≠ Config.memInit) && memWfFrom (k + 1) rest

/-- Memory is in its canonical form (R50: addresses 0x0000 to 0xFFFF, no holes). -/
def Memory.wf (m : Memory) : Bool := memWfFrom 0 m

/-- `MemRead(addr, 1)` (R52). -/
def State.read (s : State) (addr : Word) : Byte := memRead s.mem addr.toNat

/-- `MemWrite(addr, 1, v)` (R53). -/
def State.write (s : State) (addr : Word) (v : Byte) : State :=
  { s with mem := memWrite s.mem addr.toNat v }

/-- `MemRead(addr, 2)`, little-endian, the second address modulo 65536 (R54). -/
def State.readWord (s : State) (addr : Word) : Word := joinBytes (s.read (addr + 1)) (s.read addr)

/-- `MemWrite(addr, 2, w)`, little-endian; an operation of the host alone (R55). -/
def State.writeWord (s : State) (addr w : Word) : State :=
  (s.write addr (lowByte w)).write (addr + 1) (highByte w)

/-! ### Registers -/

/-- The three general registers (R20). -/
inductive Reg where
  | a | x | y
  deriving DecidableEq, Repr

/-- Reads a general register (R20: no register is hard-wired). -/
def State.reg (s : State) : Reg → Byte
  | .a => s.a
  | .x => s.x
  | .y => s.y

/-- Writes a general register (R20). -/
def State.setReg (s : State) (r : Reg) (v : Byte) : State :=
  match r with
  | .a => { s with a := v }
  | .x => { s with x := v }
  | .y => { s with y := v }

/-- Writes SP (R24). -/
def State.setSP (s : State) (v : Byte) : State := { s with sp := v }

/-- Writes PC (R21). -/
def State.setPC (s : State) (v : Word) : State := { s with pc := v }

/-- Writes P (R27). -/
def State.setP (s : State) (v : Byte) : State := { s with p := v }

/-- One flag of P (R27). -/
def State.flag (s : State) (f : Flag) : Bool := getFlag f s.p

/-- PC past an instruction of `n` bytes, for those that do not write PC themselves (R10, R22). -/
def State.advance (s : State) (n : Nat) : State := s.setPC (s.pc + BitVec.ofNat 16 n)

/-! ### Widening (R9) -/

/-- `zext_16(b)`. -/
def zext16 (b : Byte) : Word := b.setWidth 16

/-- `sext_16(b)`: the byte read as two's complement. -/
def sext16 (b : Byte) : Word := b.signExtend 16

/-! ### The stack -/

/-- The stack location a pointer value names: `0x0100 + SP` (R24). -/
def stackAddr (sp : Byte) : Word := 0x0100 + zext16 sp

/-- `Push(v)`: write, then SP down by one modulo 256 (R25, D4). -/
def State.push (s : State) (v : Byte) : State := (s.write (stackAddr s.sp) v).setSP (s.sp - 1)

/-- `Pull()`: SP up by one modulo 256, then read (R26, D4). The byte, and the state after. -/
def State.pull (s : State) : Byte × State := (s.read (stackAddr (s.sp + 1)), s.setSP (s.sp + 1))

/-- Pushes a word, high byte first (R201). -/
def State.pushWord (s : State) (w : Word) : State := (s.push (highByte w)).push (lowByte w)

/-- Pulls a word, low byte first (R202). -/
def State.pullWord (s : State) : Word × State :=
  (joinBytes s.pull.2.pull.1 s.pull.1, s.pull.2.pull.2)

/-! ### A step begins: the run state, and fetching -/

/-- The unit takes no step (R254). -/
def State.isHalted (s : State) : Bool := decide (s.runState = .halted)

/-- The first step after Reset makes the unit Running; it stays so until a step halts it (R32). -/
def State.startStep (s : State) : State := { s with runState := .running }

/-- The bytes an instruction at PC may have, at ascending addresses modulo 65536 (R10, R57). -/
def State.instrBytes (s : State) : List Byte := [s.read s.pc, s.read (s.pc + 1), s.read (s.pc + 2)]

/-- Fetch and decode: the instruction whose opcode byte is at PC (R10, R80). -/
def State.fetch (s : State) : Except DecodeError Instr :=
  match decode s.instrBytes with
  | .ok (i, _) => .ok i
  | .error e => .error e

/-! ### The two synchronous events, and the return -/

/-- The fatal decode failure: PC stays past the byte, the unit is Halted, the byte and its address are reported, and
nothing else changes (R241, D14). -/
def State.takeUnknownOpcode (s : State) : State :=
  { s with
    pc := s.pc + 1
    runState := .halted
    haltCause := .unknownOpcode
    faultRecord := some { byte := s.read s.pc, pc := s.pc } }

/-- Trap entry, BRK's alone (R247): the return value high byte then low byte, the copy of P with Break and Break2 set,
then I set in the register and PC from the vector. -/
def State.trapEntry (s : State) (ret : Word) : State :=
  let pushed := (s.pushWord ret).push (statusCopy s.p)
  (pushed.setP (setFlag .i true s.p)).setPC (pushed.readWord Config.brkVector)

/-- The unit halts with BRK as its cause (R32, R224). -/
def State.haltBreak (s : State) : State := { s with runState := .halted, haltCause := .brk }

/-- Trap return, RTI's (R225, R248): P but for bits 5 and 4, then PC low and high, with no increment. -/
def State.trapReturn (s : State) : State :=
  let status := s.pull
  let target := status.2.pullWord
  (target.2.setP (statusPulled status.1)).setPC target.1

end Sys2Proof.Machine
end

