-- ==== Sys2Proof/Machine/Operands.lean ====
section
/-! DEFINITION. The addressing-mode resolver (40_addressing.md): the effective address of each of the thirteen formats,
the page-crossing indication, and the operand byte M. It reads X, Y and memory and writes nothing (R110, R125). -/

namespace Sys2Proof.Machine

/-- The word stored at a zero-page location, the second byte wrapping within the zero page (R119, R120, D12). -/
def State.zpPointer (s : State) (p : Byte) : Word :=
  joinBytes (s.read (zext16 (p + 1))) (s.read (zext16 p))

/-- The word stored at `w` with the same-page defect: the second address keeps the high byte of `w` (R121). -/
def State.indPointer (s : State) (w : Word) : Word :=
  joinBytes (s.read ((w &&& 0xFF00) ||| ((w + 1) &&& 0x00FF))) (s.read w)

/-- The un-indexed base of a memory operand: what R123 compares the effective address with. -/
def memBase (f : MemForm) (s : State) : Word :=
  match f with
  | .zp b => zext16 b
  | .zpx b => zext16 (b + s.x)
  | .zpy b => zext16 (b + s.y)
  | .abs w | .absx w | .absy w => w
  | .indx b => s.zpPointer (b + s.x)
  | .indy b => s.zpPointer b

/-- The effective address `ea` of a memory operand (R113 to R120). -/
def memAddr (f : MemForm) (s : State) : Word :=
  match f with
  | .absx _ => memBase f s + zext16 s.x
  | .absy _ | .indy _ => memBase f s + zext16 s.y
  | .zp _ | .zpx _ | .zpy _ | .abs _ | .indx _ => memBase f s

/-- `page_crossed`: the high byte of `ea` differs from that of the un-indexed base (R123); no step reads it. -/
def pageCrossed (f : MemForm) (s : State) : Bool := highByte (memAddr f s) != highByte (memBase f s)

/-- The byte a memory operand holds: `MemRead(ea, 1)` (R124). -/
def memByte (f : MemForm) (s : State) : Byte := s.read (memAddr f s)

/-- The operand byte M: the instruction's own byte for IMM, one read of `ea` for a memory format (R112, R124). -/
def sourceByte (src : Source) (s : State) : Byte :=
  match src with
  | .imm b => b
  | .mem f => memByte f s

/-- The operand of a shift or rotate: A, or the byte at `ea` (R180). -/
def placeByte (pl : Place) (s : State) : Byte :=
  match pl with
  | .acc => s.a
  | .mem f => memByte f s

/-- Where the result of a shift or rotate goes (R180). -/
def placeWrite (pl : Place) (v : Byte) (s : State) : State :=
  match pl with
  | .acc => s.setReg .a v
  | .mem f => s.write (memAddr f s) v

/-- The target of a taken branch: the address after the two bytes plus the signed offset (R122, R190, D13). -/
def branchTarget (b : Byte) (s : State) : Word := s.pc + 2 + sext16 b

/-- Length of an instruction with a memory operand (R81). -/
def memLength (f : MemForm) : Nat := f.format.length

/-- Length of an instruction that reads M (R81). -/
def sourceLength : Source → Nat
  | .imm _ => 2
  | .mem f => memLength f

/-- Length of a shift or rotate (R81). -/
def placeLength : Place → Nat
  | .acc => 1
  | .mem f => memLength f

/-- What the resolver answers: an address or none, and whether a page boundary was crossed (R110). -/
structure Resolved where
  ea : Option Word
  pageCrossed : Bool
  deriving DecidableEq, Repr

/-- The resolver over all thirteen formats (R111 to R122). IMM and REL name no address of data; `page_crossed` is false
for every format but ABSX, ABSY and INDY (R123). -/
def resolve (o : Operand) (s : State) : Resolved :=
  match o with
  | .imp | .acc | .imm _ | .rel _ => { ea := none, pageCrossed := false }
  | .mem f => { ea := some (memAddr f s), pageCrossed := pageCrossed f s }
  | .target w => { ea := some w, pageCrossed := false }
  | .ind w => { ea := some (s.indPointer w), pageCrossed := false }

end Sys2Proof.Machine
end

