-- ==== Sys2Proof/Machine/Arithmetic.lean ====
section
/-! DEFINITION. Arithmetic, logic, compare, increment and decrement (42_arithmetic_logic.md, R150 to R168). D is not
consulted anywhere (R153). -/

namespace Sys2Proof.Machine

/-- ADC and SBC: A becomes A + `m` + C, where SBC gives the complement of M as `m`; C, V, Z, N (R152, R154, D25). -/
def addToA (m : Byte) (length : Nat) (s : State) : State :=
  let r := add8 s.a m (s.flag .c)
  ((s.setReg .a r.result).setP (sumFlags r s.p)).advance length

/-- AND, ORA, EOR: A becomes A op M; Z and N from the result (R155 to R157). -/
def logicToA (op : Byte → Byte → Byte) (src : Source) (s : State) : State :=
  let r := op s.a (sourceByte src s)
  ((s.setReg .a r).setP (setNZ r s.p)).advance (sourceLength src)

/-- BIT: only Z, N and V change (R158). -/
def bitTest (f : MemForm) (s : State) : State :=
  (s.setP (bitFlags s.a (memByte f s) s.p)).advance (memLength f)

/-- CMP, CPX, CPY: only C, Z and N change (R159). -/
def compareReg (r : Reg) (src : Source) (s : State) : State :=
  (s.setP (compareFlags (s.reg r) (sourceByte src s) s.p)).advance (sourceLength src)

/-- INC and DEC: one read and one write of `ea`, Z and N from the byte written (R163, R164, D22). -/
def addToMem (d : Byte) (f : MemForm) (s : State) : State :=
  let v := memByte f s + d
  ((s.write (memAddr f s) v).setP (setNZ v s.p)).advance (memLength f)

/-- INX, INY, DEX, DEY: the register modulo 256, Z and N from its new value (R165 to R168). -/
def addToReg (d : Byte) (r : Reg) (s : State) : State :=
  let v := s.reg r + d
  ((s.setReg r v).setP (setNZ v s.p)).advance 1

/-- ADC IMM, 0x69 (R152, R112). -/
def execAdcImm (b : Byte) (s : State) : Outcome :=
  .next (addToA (sourceByte (.imm b) s) (sourceLength (.imm b)) s)

/-- ADC ZP, 0x65 (R152, R113). -/
def execAdcZp (b : Byte) (s : State) : Outcome :=
  .next (addToA (sourceByte (.mem (.zp b)) s) (sourceLength (.mem (.zp b))) s)

/-- ADC ZPX, 0x75 (R152, R114). -/
def execAdcZpx (b : Byte) (s : State) : Outcome :=
  .next (addToA (sourceByte (.mem (.zpx b)) s) (sourceLength (.mem (.zpx b))) s)

/-- ADC ABS, 0x6D (R152, R116). -/
def execAdcAbs (w : Word) (s : State) : Outcome :=
  .next (addToA (sourceByte (.mem (.abs w)) s) (sourceLength (.mem (.abs w))) s)

/-- ADC ABSX, 0x7D (R152, R117). -/
def execAdcAbsx (w : Word) (s : State) : Outcome :=
  .next (addToA (sourceByte (.mem (.absx w)) s) (sourceLength (.mem (.absx w))) s)

/-- ADC ABSY, 0x79 (R152, R118). -/
def execAdcAbsy (w : Word) (s : State) : Outcome :=
  .next (addToA (sourceByte (.mem (.absy w)) s) (sourceLength (.mem (.absy w))) s)

/-- ADC INDX, 0x61 (R152, R119). -/
def execAdcIndx (b : Byte) (s : State) : Outcome :=
  .next (addToA (sourceByte (.mem (.indx b)) s) (sourceLength (.mem (.indx b))) s)

/-- ADC INDY, 0x71 (R152, R120). -/
def execAdcIndy (b : Byte) (s : State) : Outcome :=
  .next (addToA (sourceByte (.mem (.indy b)) s) (sourceLength (.mem (.indy b))) s)

/-- SBC IMM, 0xE9 (R154, R112). -/
def execSbcImm (b : Byte) (s : State) : Outcome :=
  .next (addToA (~~~ sourceByte (.imm b) s) (sourceLength (.imm b)) s)

/-- SBC ZP, 0xE5 (R154, R113). -/
def execSbcZp (b : Byte) (s : State) : Outcome :=
  .next (addToA (~~~ sourceByte (.mem (.zp b)) s) (sourceLength (.mem (.zp b))) s)

/-- SBC ZPX, 0xF5 (R154, R114). -/
def execSbcZpx (b : Byte) (s : State) : Outcome :=
  .next (addToA (~~~ sourceByte (.mem (.zpx b)) s) (sourceLength (.mem (.zpx b))) s)

/-- SBC ABS, 0xED (R154, R116). -/
def execSbcAbs (w : Word) (s : State) : Outcome :=
  .next (addToA (~~~ sourceByte (.mem (.abs w)) s) (sourceLength (.mem (.abs w))) s)

/-- SBC ABSX, 0xFD (R154, R117). -/
def execSbcAbsx (w : Word) (s : State) : Outcome :=
  .next (addToA (~~~ sourceByte (.mem (.absx w)) s) (sourceLength (.mem (.absx w))) s)

/-- SBC ABSY, 0xF9 (R154, R118). -/
def execSbcAbsy (w : Word) (s : State) : Outcome :=
  .next (addToA (~~~ sourceByte (.mem (.absy w)) s) (sourceLength (.mem (.absy w))) s)

/-- SBC INDX, 0xE1 (R154, R119). -/
def execSbcIndx (b : Byte) (s : State) : Outcome :=
  .next (addToA (~~~ sourceByte (.mem (.indx b)) s) (sourceLength (.mem (.indx b))) s)

/-- SBC INDY, 0xF1 (R154, R120). -/
def execSbcIndy (b : Byte) (s : State) : Outcome :=
  .next (addToA (~~~ sourceByte (.mem (.indy b)) s) (sourceLength (.mem (.indy b))) s)

/-- AND IMM, 0x29 (R155, R112). -/
def execAndImm (b : Byte) (s : State) : Outcome :=
  .next (logicToA (· &&& ·) (.imm b) s)

/-- AND ZP, 0x25 (R155, R113). -/
def execAndZp (b : Byte) (s : State) : Outcome :=
  .next (logicToA (· &&& ·) (.mem (.zp b)) s)

/-- AND ZPX, 0x35 (R155, R114). -/
def execAndZpx (b : Byte) (s : State) : Outcome :=
  .next (logicToA (· &&& ·) (.mem (.zpx b)) s)

/-- AND ABS, 0x2D (R155, R116). -/
def execAndAbs (w : Word) (s : State) : Outcome :=
  .next (logicToA (· &&& ·) (.mem (.abs w)) s)

/-- AND ABSX, 0x3D (R155, R117). -/
def execAndAbsx (w : Word) (s : State) : Outcome :=
  .next (logicToA (· &&& ·) (.mem (.absx w)) s)

/-- AND ABSY, 0x39 (R155, R118). -/
def execAndAbsy (w : Word) (s : State) : Outcome :=
  .next (logicToA (· &&& ·) (.mem (.absy w)) s)

/-- AND INDX, 0x21 (R155, R119). -/
def execAndIndx (b : Byte) (s : State) : Outcome :=
  .next (logicToA (· &&& ·) (.mem (.indx b)) s)

/-- AND INDY, 0x31 (R155, R120). -/
def execAndIndy (b : Byte) (s : State) : Outcome :=
  .next (logicToA (· &&& ·) (.mem (.indy b)) s)

/-- ORA IMM, 0x09 (R156, R112). -/
def execOraImm (b : Byte) (s : State) : Outcome :=
  .next (logicToA (· ||| ·) (.imm b) s)

/-- ORA ZP, 0x05 (R156, R113). -/
def execOraZp (b : Byte) (s : State) : Outcome :=
  .next (logicToA (· ||| ·) (.mem (.zp b)) s)

/-- ORA ZPX, 0x15 (R156, R114). -/
def execOraZpx (b : Byte) (s : State) : Outcome :=
  .next (logicToA (· ||| ·) (.mem (.zpx b)) s)

/-- ORA ABS, 0x0D (R156, R116). -/
def execOraAbs (w : Word) (s : State) : Outcome :=
  .next (logicToA (· ||| ·) (.mem (.abs w)) s)

/-- ORA ABSX, 0x1D (R156, R117). -/
def execOraAbsx (w : Word) (s : State) : Outcome :=
  .next (logicToA (· ||| ·) (.mem (.absx w)) s)

/-- ORA ABSY, 0x19 (R156, R118). -/
def execOraAbsy (w : Word) (s : State) : Outcome :=
  .next (logicToA (· ||| ·) (.mem (.absy w)) s)

/-- ORA INDX, 0x01 (R156, R119). -/
def execOraIndx (b : Byte) (s : State) : Outcome :=
  .next (logicToA (· ||| ·) (.mem (.indx b)) s)

/-- ORA INDY, 0x11 (R156, R120). -/
def execOraIndy (b : Byte) (s : State) : Outcome :=
  .next (logicToA (· ||| ·) (.mem (.indy b)) s)

/-- EOR IMM, 0x49 (R157, R112). -/
def execEorImm (b : Byte) (s : State) : Outcome :=
  .next (logicToA (· ^^^ ·) (.imm b) s)

/-- EOR ZP, 0x45 (R157, R113). -/
def execEorZp (b : Byte) (s : State) : Outcome :=
  .next (logicToA (· ^^^ ·) (.mem (.zp b)) s)

/-- EOR ZPX, 0x55 (R157, R114). -/
def execEorZpx (b : Byte) (s : State) : Outcome :=
  .next (logicToA (· ^^^ ·) (.mem (.zpx b)) s)

/-- EOR ABS, 0x4D (R157, R116). -/
def execEorAbs (w : Word) (s : State) : Outcome :=
  .next (logicToA (· ^^^ ·) (.mem (.abs w)) s)

/-- EOR ABSX, 0x5D (R157, R117). -/
def execEorAbsx (w : Word) (s : State) : Outcome :=
  .next (logicToA (· ^^^ ·) (.mem (.absx w)) s)

/-- EOR ABSY, 0x59 (R157, R118). -/
def execEorAbsy (w : Word) (s : State) : Outcome :=
  .next (logicToA (· ^^^ ·) (.mem (.absy w)) s)

/-- EOR INDX, 0x41 (R157, R119). -/
def execEorIndx (b : Byte) (s : State) : Outcome :=
  .next (logicToA (· ^^^ ·) (.mem (.indx b)) s)

/-- EOR INDY, 0x51 (R157, R120). -/
def execEorIndy (b : Byte) (s : State) : Outcome :=
  .next (logicToA (· ^^^ ·) (.mem (.indy b)) s)

/-- BIT ZP, 0x24 (R158, R113). -/
def execBitZp (b : Byte) (s : State) : Outcome :=
  .next (bitTest (.zp b) s)

/-- BIT ABS, 0x2C (R158, R116). -/
def execBitAbs (w : Word) (s : State) : Outcome :=
  .next (bitTest (.abs w) s)

/-- CMP IMM, 0xC9 (R160, R112). -/
def execCmpImm (b : Byte) (s : State) : Outcome :=
  .next (compareReg .a (.imm b) s)

/-- CMP ZP, 0xC5 (R160, R113). -/
def execCmpZp (b : Byte) (s : State) : Outcome :=
  .next (compareReg .a (.mem (.zp b)) s)

/-- CMP ZPX, 0xD5 (R160, R114). -/
def execCmpZpx (b : Byte) (s : State) : Outcome :=
  .next (compareReg .a (.mem (.zpx b)) s)

/-- CMP ABS, 0xCD (R160, R116). -/
def execCmpAbs (w : Word) (s : State) : Outcome :=
  .next (compareReg .a (.mem (.abs w)) s)

/-- CMP ABSX, 0xDD (R160, R117). -/
def execCmpAbsx (w : Word) (s : State) : Outcome :=
  .next (compareReg .a (.mem (.absx w)) s)

/-- CMP ABSY, 0xD9 (R160, R118). -/
def execCmpAbsy (w : Word) (s : State) : Outcome :=
  .next (compareReg .a (.mem (.absy w)) s)

/-- CMP INDX, 0xC1 (R160, R119). -/
def execCmpIndx (b : Byte) (s : State) : Outcome :=
  .next (compareReg .a (.mem (.indx b)) s)

/-- CMP INDY, 0xD1 (R160, R120). -/
def execCmpIndy (b : Byte) (s : State) : Outcome :=
  .next (compareReg .a (.mem (.indy b)) s)

/-- CPX IMM, 0xE0 (R161, R112). -/
def execCpxImm (b : Byte) (s : State) : Outcome :=
  .next (compareReg .x (.imm b) s)

/-- CPX ZP, 0xE4 (R161, R113). -/
def execCpxZp (b : Byte) (s : State) : Outcome :=
  .next (compareReg .x (.mem (.zp b)) s)

/-- CPX ABS, 0xEC (R161, R116). -/
def execCpxAbs (w : Word) (s : State) : Outcome :=
  .next (compareReg .x (.mem (.abs w)) s)

/-- CPY IMM, 0xC0 (R162, R112). -/
def execCpyImm (b : Byte) (s : State) : Outcome :=
  .next (compareReg .y (.imm b) s)

/-- CPY ZP, 0xC4 (R162, R113). -/
def execCpyZp (b : Byte) (s : State) : Outcome :=
  .next (compareReg .y (.mem (.zp b)) s)

/-- CPY ABS, 0xCC (R162, R116). -/
def execCpyAbs (w : Word) (s : State) : Outcome :=
  .next (compareReg .y (.mem (.abs w)) s)

/-- INC ZP, 0xE6 (R163, R113). -/
def execIncZp (b : Byte) (s : State) : Outcome :=
  .next (addToMem 1 (.zp b) s)

/-- INC ZPX, 0xF6 (R163, R114). -/
def execIncZpx (b : Byte) (s : State) : Outcome :=
  .next (addToMem 1 (.zpx b) s)

/-- INC ABS, 0xEE (R163, R116). -/
def execIncAbs (w : Word) (s : State) : Outcome :=
  .next (addToMem 1 (.abs w) s)

/-- INC ABSX, 0xFE (R163, R117). -/
def execIncAbsx (w : Word) (s : State) : Outcome :=
  .next (addToMem 1 (.absx w) s)

/-- DEC ZP, 0xC6 (R164, R113). -/
def execDecZp (b : Byte) (s : State) : Outcome :=
  .next (addToMem (-1) (.zp b) s)

/-- DEC ZPX, 0xD6 (R164, R114). -/
def execDecZpx (b : Byte) (s : State) : Outcome :=
  .next (addToMem (-1) (.zpx b) s)

/-- DEC ABS, 0xCE (R164, R116). -/
def execDecAbs (w : Word) (s : State) : Outcome :=
  .next (addToMem (-1) (.abs w) s)

/-- DEC ABSX, 0xDE (R164, R117). -/
def execDecAbsx (w : Word) (s : State) : Outcome :=
  .next (addToMem (-1) (.absx w) s)

/-- INX IMP, 0xE8 (R165). -/
def execInx (s : State) : Outcome :=
  .next (addToReg 1 .x s)

/-- INY IMP, 0xC8 (R166). -/
def execIny (s : State) : Outcome :=
  .next (addToReg 1 .y s)

/-- DEX IMP, 0xCA (R167). -/
def execDex (s : State) : Outcome :=
  .next (addToReg (-1) .x s)

/-- DEY IMP, 0x88 (R168). -/
def execDey (s : State) : Outcome :=
  .next (addToReg (-1) .y s)

end Sys2Proof.Machine
end

