-- ==== Sys2Proof/Machine/Control.lean ====
section
/-! DEFINITION. Branches, jumps, call and return (44_control_transfer.md, R190 to R203). `s.pc` is the address `a` of the opcode
byte. -/

namespace Sys2Proof.Machine

/-- The branch rule: taken when the flag has the required value; otherwise PC past the two bytes (R190). -/
def branchOn (f : Flag) (required : Bool) (b : Byte) (s : State) : State :=
  if s.flag f = required then s.setPC (branchTarget b s) else s.advance 2

/-- BCC REL, 0x90 (R191, R190). -/
def execBcc (b : Byte) (s : State) : Outcome :=
  .next (branchOn .c false b s)

/-- BCS REL, 0xB0 (R192, R190). -/
def execBcs (b : Byte) (s : State) : Outcome :=
  .next (branchOn .c true b s)

/-- BEQ REL, 0xF0 (R193, R190). -/
def execBeq (b : Byte) (s : State) : Outcome :=
  .next (branchOn .z true b s)

/-- BMI REL, 0x30 (R194, R190). -/
def execBmi (b : Byte) (s : State) : Outcome :=
  .next (branchOn .n true b s)

/-- BNE REL, 0xD0 (R195, R190). -/
def execBne (b : Byte) (s : State) : Outcome :=
  .next (branchOn .z false b s)

/-- BPL REL, 0x10 (R196, R190). -/
def execBpl (b : Byte) (s : State) : Outcome :=
  .next (branchOn .n false b s)

/-- BVC REL, 0x50 (R197, R190). -/
def execBvc (b : Byte) (s : State) : Outcome :=
  .next (branchOn .v false b s)

/-- BVS REL, 0x70 (R198, R190). -/
def execBvs (b : Byte) (s : State) : Outcome :=
  .next (branchOn .v true b s)

/-- JMP ABS, 0x4C (R199). -/
def execJmpAbs (w : Word) (s : State) : Outcome :=
  .next (s.setPC w)

/-- JMP IND, 0x6C (R200). -/
def execJmpInd (w : Word) (s : State) : Outcome :=
  .next (s.setPC (s.indPointer w))

/-- JSR ABS, 0x20 (R201). -/
def execJsr (w : Word) (s : State) : Outcome :=
  .next ((s.pushWord (s.pc + 2)).setPC w)

/-- RTS IMP, 0x60 (R202). -/
def execRts (s : State) : Outcome :=
  .next (s.pullWord.2.setPC (s.pullWord.1 + 1))

end Sys2Proof.Machine
end

