-- ==== Sys2Proof/Machine/LoadStore.lean ====
section
/-! DEFINITION. Loads, stores and register transfers (41_load_store_transfer.md, R130 to R142). -/

namespace Sys2Proof.Machine

/-- The load of a register: M goes to it, Z and N are set from M, nothing else (R130). -/
def loadReg (r : Reg) (src : Source) (s : State) : State :=
  let m := sourceByte src s
  ((s.setReg r m).setP (setNZ m s.p)).advance (sourceLength src)

/-- The store of a register: one write of `ea`, no data read, no flag (R130). -/
def storeReg (r : Reg) (f : MemForm) (s : State) : State :=
  (s.write (memAddr f s) (s.reg r)).advance (memLength f)

/-- A byte copied to a register, Z and N set from it, in an instruction of one byte (R130, R212). -/
def transferReg (r : Reg) (v : Byte) (s : State) : State :=
  ((s.setReg r v).setP (setNZ v s.p)).advance 1

/-- LDA IMM, 0xA9 (R131, R112). -/
def execLdaImm (b : Byte) (s : State) : Outcome :=
  .next (loadReg .a (.imm b) s)

/-- LDA ZP, 0xA5 (R131, R113). -/
def execLdaZp (b : Byte) (s : State) : Outcome :=
  .next (loadReg .a (.mem (.zp b)) s)

/-- LDA ZPX, 0xB5 (R131, R114). -/
def execLdaZpx (b : Byte) (s : State) : Outcome :=
  .next (loadReg .a (.mem (.zpx b)) s)

/-- LDA ABS, 0xAD (R131, R116). -/
def execLdaAbs (w : Word) (s : State) : Outcome :=
  .next (loadReg .a (.mem (.abs w)) s)

/-- LDA ABSX, 0xBD (R131, R117). -/
def execLdaAbsx (w : Word) (s : State) : Outcome :=
  .next (loadReg .a (.mem (.absx w)) s)

/-- LDA ABSY, 0xB9 (R131, R118). -/
def execLdaAbsy (w : Word) (s : State) : Outcome :=
  .next (loadReg .a (.mem (.absy w)) s)

/-- LDA INDX, 0xA1 (R131, R119). -/
def execLdaIndx (b : Byte) (s : State) : Outcome :=
  .next (loadReg .a (.mem (.indx b)) s)

/-- LDA INDY, 0xB1 (R131, R120). -/
def execLdaIndy (b : Byte) (s : State) : Outcome :=
  .next (loadReg .a (.mem (.indy b)) s)

/-- LDX IMM, 0xA2 (R132, R112). -/
def execLdxImm (b : Byte) (s : State) : Outcome :=
  .next (loadReg .x (.imm b) s)

/-- LDX ZP, 0xA6 (R132, R113). -/
def execLdxZp (b : Byte) (s : State) : Outcome :=
  .next (loadReg .x (.mem (.zp b)) s)

/-- LDX ZPY, 0xB6 (R132, R115). -/
def execLdxZpy (b : Byte) (s : State) : Outcome :=
  .next (loadReg .x (.mem (.zpy b)) s)

/-- LDX ABS, 0xAE (R132, R116). -/
def execLdxAbs (w : Word) (s : State) : Outcome :=
  .next (loadReg .x (.mem (.abs w)) s)

/-- LDX ABSY, 0xBE (R132, R118). -/
def execLdxAbsy (w : Word) (s : State) : Outcome :=
  .next (loadReg .x (.mem (.absy w)) s)

/-- LDY IMM, 0xA0 (R133, R112). -/
def execLdyImm (b : Byte) (s : State) : Outcome :=
  .next (loadReg .y (.imm b) s)

/-- LDY ZP, 0xA4 (R133, R113). -/
def execLdyZp (b : Byte) (s : State) : Outcome :=
  .next (loadReg .y (.mem (.zp b)) s)

/-- LDY ZPX, 0xB4 (R133, R114). -/
def execLdyZpx (b : Byte) (s : State) : Outcome :=
  .next (loadReg .y (.mem (.zpx b)) s)

/-- LDY ABS, 0xAC (R133, R116). -/
def execLdyAbs (w : Word) (s : State) : Outcome :=
  .next (loadReg .y (.mem (.abs w)) s)

/-- LDY ABSX, 0xBC (R133, R117). -/
def execLdyAbsx (w : Word) (s : State) : Outcome :=
  .next (loadReg .y (.mem (.absx w)) s)

/-- STA ZP, 0x85 (R134, R113). -/
def execStaZp (b : Byte) (s : State) : Outcome :=
  .next (storeReg .a (.zp b) s)

/-- STA ZPX, 0x95 (R134, R114). -/
def execStaZpx (b : Byte) (s : State) : Outcome :=
  .next (storeReg .a (.zpx b) s)

/-- STA ABS, 0x8D (R134, R116). -/
def execStaAbs (w : Word) (s : State) : Outcome :=
  .next (storeReg .a (.abs w) s)

/-- STA ABSX, 0x9D (R134, R117). -/
def execStaAbsx (w : Word) (s : State) : Outcome :=
  .next (storeReg .a (.absx w) s)

/-- STA ABSY, 0x99 (R134, R118). -/
def execStaAbsy (w : Word) (s : State) : Outcome :=
  .next (storeReg .a (.absy w) s)

/-- STA INDX, 0x81 (R134, R119). -/
def execStaIndx (b : Byte) (s : State) : Outcome :=
  .next (storeReg .a (.indx b) s)

/-- STA INDY, 0x91 (R134, R120). -/
def execStaIndy (b : Byte) (s : State) : Outcome :=
  .next (storeReg .a (.indy b) s)

/-- STX ZP, 0x86 (R135, R113). -/
def execStxZp (b : Byte) (s : State) : Outcome :=
  .next (storeReg .x (.zp b) s)

/-- STX ZPY, 0x96 (R135, R115). -/
def execStxZpy (b : Byte) (s : State) : Outcome :=
  .next (storeReg .x (.zpy b) s)

/-- STX ABS, 0x8E (R135, R116). -/
def execStxAbs (w : Word) (s : State) : Outcome :=
  .next (storeReg .x (.abs w) s)

/-- STY ZP, 0x84 (R136, R113). -/
def execStyZp (b : Byte) (s : State) : Outcome :=
  .next (storeReg .y (.zp b) s)

/-- STY ZPX, 0x94 (R136, R114). -/
def execStyZpx (b : Byte) (s : State) : Outcome :=
  .next (storeReg .y (.zpx b) s)

/-- STY ABS, 0x8C (R136, R116). -/
def execStyAbs (w : Word) (s : State) : Outcome :=
  .next (storeReg .y (.abs w) s)

/-- TAX IMP, 0xAA (R137). -/
def execTax (s : State) : Outcome :=
  .next (transferReg .x s.a s)

/-- TAY IMP, 0xA8 (R138). -/
def execTay (s : State) : Outcome :=
  .next (transferReg .y s.a s)

/-- TXA IMP, 0x8A (R139). -/
def execTxa (s : State) : Outcome :=
  .next (transferReg .a s.x s)

/-- TYA IMP, 0x98 (R140). -/
def execTya (s : State) : Outcome :=
  .next (transferReg .a s.y s)

/-- TSX IMP, 0xBA (R141). -/
def execTsx (s : State) : Outcome :=
  .next (transferReg .x s.sp s)

/-- TXS IMP, 0x9A (R142). -/
def execTxs (s : State) : Outcome :=
  .next ((s.setSP s.x).advance 1)

end Sys2Proof.Machine
end

