-- ==== Sys2Proof/Machine/Shift.lean ====
section
/-! DEFINITION. Shifts and rotates (43_shift_rotate.md, R180 to R184). -/

namespace Sys2Proof.Machine

/-- The five forms of a shift or rotate: the operand is A or the byte at `ea`, the result goes back there, C is the bit
shifted out, Z and N are those of the result (R180). -/
def shiftPlace (op : Byte → Bool → Shifted) (pl : Place) (s : State) : State :=
  let r := op (placeByte pl s) (s.flag .c)
  ((placeWrite pl r.result s).setP (shiftFlags r s.p)).advance (placeLength pl)

/-- ASL ACC, 0x0A (R181, R111). -/
def execAslAcc (s : State) : Outcome :=
  .next (shiftPlace aslByte .acc s)

/-- ASL ZP, 0x06 (R181, R113). -/
def execAslZp (b : Byte) (s : State) : Outcome :=
  .next (shiftPlace aslByte (.mem (.zp b)) s)

/-- ASL ZPX, 0x16 (R181, R114). -/
def execAslZpx (b : Byte) (s : State) : Outcome :=
  .next (shiftPlace aslByte (.mem (.zpx b)) s)

/-- ASL ABS, 0x0E (R181, R116). -/
def execAslAbs (w : Word) (s : State) : Outcome :=
  .next (shiftPlace aslByte (.mem (.abs w)) s)

/-- ASL ABSX, 0x1E (R181, R117). -/
def execAslAbsx (w : Word) (s : State) : Outcome :=
  .next (shiftPlace aslByte (.mem (.absx w)) s)

/-- LSR ACC, 0x4A (R182, R111). -/
def execLsrAcc (s : State) : Outcome :=
  .next (shiftPlace lsrByte .acc s)

/-- LSR ZP, 0x46 (R182, R113). -/
def execLsrZp (b : Byte) (s : State) : Outcome :=
  .next (shiftPlace lsrByte (.mem (.zp b)) s)

/-- LSR ZPX, 0x56 (R182, R114). -/
def execLsrZpx (b : Byte) (s : State) : Outcome :=
  .next (shiftPlace lsrByte (.mem (.zpx b)) s)

/-- LSR ABS, 0x4E (R182, R116). -/
def execLsrAbs (w : Word) (s : State) : Outcome :=
  .next (shiftPlace lsrByte (.mem (.abs w)) s)

/-- LSR ABSX, 0x5E (R182, R117). -/
def execLsrAbsx (w : Word) (s : State) : Outcome :=
  .next (shiftPlace lsrByte (.mem (.absx w)) s)

/-- ROL ACC, 0x2A (R183, R111). -/
def execRolAcc (s : State) : Outcome :=
  .next (shiftPlace rolByte .acc s)

/-- ROL ZP, 0x26 (R183, R113). -/
def execRolZp (b : Byte) (s : State) : Outcome :=
  .next (shiftPlace rolByte (.mem (.zp b)) s)

/-- ROL ZPX, 0x36 (R183, R114). -/
def execRolZpx (b : Byte) (s : State) : Outcome :=
  .next (shiftPlace rolByte (.mem (.zpx b)) s)

/-- ROL ABS, 0x2E (R183, R116). -/
def execRolAbs (w : Word) (s : State) : Outcome :=
  .next (shiftPlace rolByte (.mem (.abs w)) s)

/-- ROL ABSX, 0x3E (R183, R117). -/
def execRolAbsx (w : Word) (s : State) : Outcome :=
  .next (shiftPlace rolByte (.mem (.absx w)) s)

/-- ROR ACC, 0x6A (R184, R111). -/
def execRorAcc (s : State) : Outcome :=
  .next (shiftPlace rorByte .acc s)

/-- ROR ZP, 0x66 (R184, R113). -/
def execRorZp (b : Byte) (s : State) : Outcome :=
  .next (shiftPlace rorByte (.mem (.zp b)) s)

/-- ROR ZPX, 0x76 (R184, R114). -/
def execRorZpx (b : Byte) (s : State) : Outcome :=
  .next (shiftPlace rorByte (.mem (.zpx b)) s)

/-- ROR ABS, 0x6E (R184, R116). -/
def execRorAbs (w : Word) (s : State) : Outcome :=
  .next (shiftPlace rorByte (.mem (.abs w)) s)

/-- ROR ABSX, 0x7E (R184, R117). -/
def execRorAbsx (w : Word) (s : State) : Outcome :=
  .next (shiftPlace rorByte (.mem (.absx w)) s)

end Sys2Proof.Machine
end

