-- ==== Sys2Proof/Machine/System.lean ====
section
/-! DEFINITION. Stack, flag and system instructions (45_stack_flags_system.md, R210 to R225). -/

namespace Sys2Proof.Machine

/-- The flag instructions: one flag written, nothing else but PC (R210). -/
def writeFlag (f : Flag) (v : Bool) (s : State) : State := (s.setP (setFlag f v s.p)).advance 1

/-- PHA IMP, 0x48 (R211). -/
def execPha (s : State) : Outcome :=
  .next ((s.push s.a).advance 1)

/-- PLA IMP, 0x68 (R212). -/
def execPla (s : State) : Outcome :=
  .next (transferReg .a s.pull.1 s.pull.2)

/-- PHP IMP, 0x08 (R213). -/
def execPhp (s : State) : Outcome :=
  .next ((s.push (statusCopy s.p)).advance 1)

/-- PLP IMP, 0x28 (R214). -/
def execPlp (s : State) : Outcome :=
  .next ((s.pull.2.setP (statusPulled s.pull.1)).advance 1)

/-- CLC IMP, 0x18 (R215). -/
def execClc (s : State) : Outcome :=
  .next (writeFlag .c false s)

/-- SEC IMP, 0x38 (R216). -/
def execSec (s : State) : Outcome :=
  .next (writeFlag .c true s)

/-- CLI IMP, 0x58 (R217). -/
def execCli (s : State) : Outcome :=
  .next (writeFlag .i false s)

/-- SEI IMP, 0x78 (R218). -/
def execSei (s : State) : Outcome :=
  .next (writeFlag .i true s)

/-- CLD IMP, 0xD8 (R219). -/
def execCld (s : State) : Outcome :=
  .next (writeFlag .d false s)

/-- SED IMP, 0xF8 (R220). -/
def execSed (s : State) : Outcome :=
  .next (writeFlag .d true s)

/-- CLV IMP, 0xB8 (R221). -/
def execClv (s : State) : Outcome :=
  .next (writeFlag .v false s)

/-- NOP IMP, 0xEA (R223). -/
def execNop (s : State) : Outcome :=
  .next (s.advance 1)

/-- BRK IMP, 0x00 (R224). -/
def execBrk (s : State) : Outcome :=
  .next ((s.trapEntry (s.pc + 2)).haltBreak)

/-- RTI IMP, 0x40 (R225). -/
def execRti (s : State) : Outcome :=
  .next (s.trapReturn)

end Sys2Proof.Machine
end

