-- ==== Sys2Proof/Machine/HostOps.lean ====
section
/-! DEFINITION. What the host does between steps (60_exceptions.md, R250 to R256; 70_reset_and_hazards.md, R270 to
R272): Reset, Load, external halt, observe. `step` makes none of these moves. -/

namespace Sys2Proof.Machine

/-- Reset: every register to its reset value in any run state, memory kept, nothing read (R270, R271). -/
def State.hostReset (s : State) : State := { State.reset with mem := s.mem }

/-- `loadBytes(bytes, baseAddr)`: the bytes verbatim at ascending addresses modulo 65536, no register (R56). -/
def State.loadBytes (s : State) (bytes : List Byte) (base : Word) : State :=
  match bytes with
  | [] => s
  | b :: rest => (s.write base b).loadBytes rest (base + 1)

/-- `load(bytes)`: `loadBytes` at `RUN_ADDR` (R272, C6). -/
def State.load (s : State) (bytes : List Byte) : State := s.loadBytes bytes Config.runAddr

/-- External halt: Halted with cause External, nothing else; an already Halted unit keeps its cause (R255, D24). -/
def State.hostHalt (s : State) : State :=
  if s.isHalted then s else { s with runState := .halted, haltCause := .external }

/-- The state handle the host is given: registers, flags and PC (R252, R256). -/
structure Handle where
  a : Byte
  x : Byte
  y : Byte
  sp : Byte
  pc : Word
  p : Byte
  deriving DecidableEq, Repr

/-- Observe: a read of the registers, which changes nothing (R256). -/
def State.observe (s : State) : Handle :=
  { a := s.a, x := s.x, y := s.y, sp := s.sp, pc := s.pc, p := s.p }

/-- The next step retires an instruction: the unit is not Halted and the byte at PC is one of the 151 opcodes; BRK
retires, an unknown byte does not (R252, D19). -/
def State.retires (s : State) : Bool :=
  !s.isHalted &&
    match s.fetch with
    | .ok _ => true
    | .error _ => false

end Sys2Proof.Machine
end

