-- ==== Sys2Proof/Machine/Step.lean ====
section
/-! DEFINITION. One step (R10, R251): in Halted there is none (R254); otherwise the opcode byte at PC is fetched and
decoded, an unknown one takes the fatal decode failure (R241), and an instruction runs. -/

namespace Sys2Proof.Machine

/-- One step of the CPU. -/
def step (s : State) : Host.Outcome State Fault Refusal :=
  if s.isHalted then .fault (.haltedNoStep s.haltCause s.faultRecord)
  else
    match s.fetch with
    | .ok i => exec i s.startStep
    | .error _ => .next s.startStep.takeUnknownOpcode

/-- The state with an instruction, as a number the opcode table's way, stored at PC, where `step` fetches. Only those
three bytes change; it stands for the host's Load of a program (R56, log 6). A Halted state stays Halted: only Reset
leaves it (R271). -/
def State.withFetchWord (s : State) (nbits w : Nat) : State :=
  s.loadBytes (tableWordBytes nbits w) s.pc

end Sys2Proof.Machine
end

