-- ==== Sys2Proof/Machine/BusTrace.lean ====
section
/-! DEFINITION. The bus as a sequence of transactions (R67), in the order R68 fixes inside one step: the opcode, the
operand bytes, the pointer bytes, the data read, the data write, the stack, the vector. The history is no state of the
machine (R37): it is a function of the state before the step, and no step reads it. -/

namespace Sys2Proof.Machine

/-- One transaction of the bus: a byte read, or a byte written (R67). -/
inductive BusEvent where
  | read (addr : Word) (data : Byte)
  | write (addr : Word) (data : Byte)
  deriving DecidableEq, Repr

/-- A read of the memory of a state. -/
def State.readEvent (s : State) (addr : Word) : BusEvent := .read addr (s.read addr)

/-- The reads of `n` bytes at ascending addresses: opcode and operand bytes (R68, 1 and 2). -/
def State.fetchEvents (s : State) : Nat → Word → List BusEvent
  | 0, _ => []
  | n + 1, addr => s.readEvent addr :: s.fetchEvents n (addr + 1)

/-- The pointer bytes, low then high (R68, 3). -/
def pointerEvents (o : Operand) (s : State) : List BusEvent :=
  match o with
  | .mem (.indx b) => [s.readEvent (zext16 (b + s.x)), s.readEvent (zext16 (b + s.x + 1))]
  | .mem (.indy b) => [s.readEvent (zext16 b), s.readEvent (zext16 (b + 1))]
  | .ind w => [s.readEvent w, s.readEvent ((w &&& 0xFF00) ||| ((w + 1) &&& 0x00FF))]
  | _ => []

/-- The byte an instruction writes at its effective address, if it writes there (R130, R163, R164, R180). -/
def dataWritten (m : Mnemonic) (f : MemForm) (s : State) : Option Byte :=
  match m with
  | .sta => some s.a
  | .stx => some s.x
  | .sty => some s.y
  | .inc => some (memByte f s + 1)
  | .dec => some (memByte f s + (-1))
  | .asl => some (aslByte (memByte f s) (s.flag .c)).result
  | .lsr => some (lsrByte (memByte f s) (s.flag .c)).result
  | .rol => some (rolByte (memByte f s) (s.flag .c)).result
  | .ror => some (rorByte (memByte f s) (s.flag .c)).result
  | _ => none

/-- The data read of an instruction that reads its operand; stores make none (R68, 4; R124). -/
def dataReadEvents (m : Mnemonic) (f : MemForm) (s : State) : List BusEvent :=
  match m with
  | .sta | .stx | .sty => []
  | _ => [s.readEvent (memAddr f s)]

/-- The data read and the data write of an instruction with a memory operand (R68, 4 and 5). -/
def dataEvents (m : Mnemonic) (o : Operand) (s : State) : List BusEvent :=
  match o with
  | .mem f =>
    dataReadEvents m f s ++
      match dataWritten m f s with
      | some v => [.write (memAddr f s) v]
      | none => []
  | _ => []

/-- The writes of pushing bytes in order from a stack pointer on (R25). -/
def pushEvents : List Byte → Byte → List BusEvent
  | [], _ => []
  | v :: rest, sp => .write (stackAddr sp) v :: pushEvents rest (sp - 1)

/-- The reads of pulling `n` bytes (R26). -/
def pullEvents (s : State) : Nat → Byte → List BusEvent
  | 0, _ => []
  | n + 1, sp => s.readEvent (stackAddr (sp + 1)) :: pullEvents s n (sp + 1)

/-- The bytes BRK pushes, in order (R224). -/
def brkFrame (s : State) : List Byte := [highByte (s.pc + 2), lowByte (s.pc + 2), statusCopy s.p]

/-- The stack transactions of an instruction, and BRK's two vector reads after its pushes (R68, 6). -/
def stackEvents (m : Mnemonic) (s : State) : List BusEvent :=
  match m with
  | .pha => pushEvents [s.a] s.sp
  | .php => pushEvents [statusCopy s.p] s.sp
  | .pla | .plp => pullEvents s 1 s.sp
  | .jsr => pushEvents [highByte (s.pc + 2), lowByte (s.pc + 2)] s.sp
  | .rts => pullEvents s 2 s.sp
  | .rti => pullEvents s 3 s.sp
  | .brk =>
    let pushed := (s.trapEntry (s.pc + 2))
    pushEvents (brkFrame s) s.sp
      ++ [pushed.readEvent Config.brkVector, pushed.readEvent (Config.brkVector + 1)]
  | _ => []

/-- The transactions of an instruction at PC, in order (R68). -/
def instrEvents (i : Instr) (s : State) : List BusEvent :=
  s.fetchEvents i.length s.pc
    ++ pointerEvents i.operand s
    ++ dataEvents i.mnemonic i.operand s
    ++ stackEvents i.mnemonic s

/-- The transactions of the next step: none in Halted, the opcode read alone for an unknown byte (R241, R254). -/
def stepEvents (s : State) : List BusEvent :=
  if s.isHalted then []
  else
    match s.fetch with
    | .ok i => instrEvents i s
    | .error _ => [s.readEvent s.pc]

/-- A history played on a memory: each read must return what the memory holds at that moment, each write stores; the
memory after it, or none if a read returned something else (R52, R53, R62 (c)). -/
def replay : List BusEvent → Memory → Option Memory
  | [], m => some m
  | .read addr data :: rest, m => if memRead m addr.toNat = data then replay rest m else none
  | .write addr data :: rest, m => replay rest (memWrite m addr.toNat data)

end Sys2Proof.Machine
end

