-- ==== Sys2Proof/Machine/Run.lean ====
section
/-! DEFINITION. Run (R253): step after step until Halted, one notification per retired instruction, and the host's
request to terminate taken between steps. -/

namespace Sys2Proof.Machine

/-- The host's part between two steps: after a step, it forces termination or not (R255). -/
def State.afterStep (s : State) (terminate : Bool) : State := if terminate then s.hostHalt else s

/-- `runWithCallback`: the list says, step by step, whether the host forces termination after that step, and bounds the
run (a run may never end, R275). It answers the last state and the handles of the notifications, in order. -/
def runWithCallback (requests : List Bool) (s : State) : State × List Handle :=
  match requests with
  | [] => (s, [])
  | terminate :: rest =>
    match step s with
    | .next t =>
      let later := runWithCallback rest (t.afterStep terminate)
      (later.1, if s.retires then t.observe :: later.2 else later.2)
    | .fault _ | .refused _ => (s, [])

end Sys2Proof.Machine
end

