-- ==== Sys2Proof/Safety.lean ====
section
/-! DEFINITION. What the statements speak of: the invariant of the reachable states (R41), the normal and the faulty end
of a run (R275), and the frame conditions of an instruction. -/

namespace Sys2Proof.Machine

/-- The invariant of every state reachable from Reset: memory in canonical form, Break2 = 1 and Break = 0 in the
register (R29), a cause exactly when Halted, a record exactly when the cause is an unknown opcode (R33, R41). -/
def State.Inv (s : State) : Prop :=
  Memory.wf s.mem = true
    ∧ s.flag .b2 = true ∧ s.flag .b = false
    ∧ (s.haltCause = .none ↔ s.runState ≠ .halted)
    ∧ (s.faultRecord.isSome = true ↔ s.haltCause = .unknownOpcode)

/-- The run ended normally: Halted by BRK (R275). -/
def State.endedNormally (s : State) : Bool := decide (s.runState = .halted ∧ s.haltCause = .brk)

/-- The run ended in a fault: Halted by an unknown opcode (R241, R275). -/
def State.faulted (s : State) : Bool := decide (s.runState = .halted ∧ s.haltCause = .unknownOpcode)

/-- The 105 unknown opcode bytes, as R94 lists them. -/
def unknownOpcodeBytes : List Byte :=
  [0x02, 0x03, 0x04, 0x07, 0x0B, 0x0C, 0x0F, 0x12, 0x13, 0x14, 0x17, 0x1A, 0x1B]
    ++ [0x1C, 0x1F, 0x22, 0x23, 0x27, 0x2B, 0x2F, 0x32, 0x33, 0x34, 0x37, 0x3A, 0x3B]
    ++ [0x3C, 0x3F, 0x42, 0x43, 0x44, 0x47, 0x4B, 0x4F, 0x52, 0x53, 0x54, 0x57, 0x5A]
    ++ [0x5B, 0x5C, 0x5F, 0x62, 0x63, 0x64, 0x67, 0x6B, 0x6F, 0x72, 0x73, 0x74, 0x77]
    ++ [0x7A, 0x7B, 0x7C, 0x7F, 0x80, 0x82, 0x83, 0x87, 0x89, 0x8B, 0x8F, 0x92, 0x93]
    ++ [0x97, 0x9B, 0x9C, 0x9E, 0x9F, 0xA3, 0xA7, 0xAB, 0xAF, 0xB2, 0xB3, 0xB7, 0xBB]
    ++ [0xBF, 0xC2, 0xC3, 0xC7, 0xCB, 0xCF, 0xD2, 0xD3, 0xD4, 0xD7, 0xDA, 0xDB, 0xDC]
    ++ [0xDF, 0xE2, 0xE3, 0xE7, 0xEB, 0xEF, 0xF2, 0xF3, 0xF4, 0xF7, 0xFA, 0xFB, 0xFC]
    ++ [0xFF]

/-! ### Who writes what -/

/-- The instructions R28 lists as writers of each flag. Break and Break2 have none. -/
def flagWriters : Flag → List Mnemonic
  | .n | .z =>
    [.lda, .ldx, .ldy, .tax, .tay, .txa, .tya, .tsx, .pla, .adc, .sbc, .and, .ora, .eor, .inc, .dec]
      ++ [.inx, .iny, .dex, .dey, .asl, .lsr, .rol, .ror, .cmp, .cpx, .cpy, .bit, .plp, .rti]
  | .v => [.adc, .sbc, .bit, .clv, .plp, .rti]
  | .b2 | .b => []
  | .d => [.sed, .cld, .plp, .rti]
  | .i => [.sei, .cli, .brk, .plp, .rti]
  | .c => [.adc, .sbc, .cmp, .cpx, .cpy, .asl, .rol, .lsr, .ror, .sec, .clc, .plp, .rti]

/-- The instruction is one R20 lists as a writer of the general register: a shift or rotate writes A in format ACC. -/
def writesReg (r : Reg) (i : Instr) : Bool :=
  match r with
  | .a =>
    [Mnemonic.lda, .adc, .sbc, .and, .ora, .eor, .pla, .txa, .tya].contains i.mnemonic
      || ([Mnemonic.asl, .lsr, .rol, .ror].contains i.mnemonic && i.format == .acc)
  | .x => [Mnemonic.ldx, .inx, .dex, .tax, .tsx].contains i.mnemonic
  | .y => [Mnemonic.ldy, .iny, .dey, .tay].contains i.mnemonic

/-- The instructions that write SP: Push, Pull and TXS (R24). -/
def spWriters : List Mnemonic := [.pha, .php, .pla, .plp, .jsr, .rts, .rti, .brk, .txs]

/-- The instruction is one R34 lists as a writer of memory: stores, the read-modify-write forms, and Push. -/
def writesMem (i : Instr) : Bool :=
  [Mnemonic.sta, .stx, .sty, .inc, .dec, .pha, .php, .jsr, .brk].contains i.mnemonic
    || ([Mnemonic.asl, .lsr, .rol, .ror].contains i.mnemonic && i.format != .acc)

/-- The instructions that write PC themselves (R10, C3). -/
def pcWriters : List Mnemonic :=
  [.bcc, .bcs, .beq, .bmi, .bne, .bpl, .bvc, .bvs, .jmp, .jsr, .rts, .rti, .brk]

/-! ### Numbers the statements are written in -/

/-- A byte read as two's complement (R150). -/
def signed (v : Byte) : Int := if v.toNat < 128 then v.toNat else (v.toNat : Int) - 256

/-- The stack location a pointer value names, modulo 256 (R24). -/
def stackSlot (n : Nat) : Word := BitVec.ofNat 16 (0x0100 + n % 256)

/-- The zero-page address of a number modulo 256 (R113, R114). -/
def zpSlot (n : Nat) : Word := BitVec.ofNat 16 (n % 256)

/-- The number of a word with high byte `h` and low byte `l` (R8). -/
def wordNum (h l : Byte) : Nat := 256 * h.toNat + l.toNat

/-! ### Frames -/

/-- PC moved on by `n`, modulo 65536 (R22). -/
def PcPast (n : Nat) (s t : State) : Prop := t.pc.toNat = (s.pc.toNat + n) % 65536

/-- Every general register outside the list is as before (R20). -/
def RegsKeptBut (changed : List Reg) (s t : State) : Prop := ∀ r, r ∉ changed → t.reg r = s.reg r

/-- Every flag of P outside the list is as before (R28). -/
def FlagsKeptBut (changed : List Flag) (s t : State) : Prop := ∀ f, f ∉ changed → t.flag f = s.flag f

/-- Every byte of memory outside the listed addresses reads as before (R53). -/
def MemKeptBut (written : List Word) (s t : State) : Prop := ∀ addr, addr ∉ written → t.read addr = s.read addr

/-- The run state, the halt cause and the fault record are as before (R31). -/
def RunKept (s t : State) : Prop :=
  t.runState = s.runState ∧ t.haltCause = s.haltCause ∧ t.faultRecord = s.faultRecord

/-- The frame of an instruction that writes only the listed registers and flags and PC: SP, the other registers and
flags, every byte of memory and the run state are as before. -/
def OnlyWrites (regs : List Reg) (flags : List Flag) (s t : State) : Prop :=
  RegsKeptBut regs s t ∧ t.sp = s.sp ∧ FlagsKeptBut flags s t ∧ MemKeptBut [] s t ∧ RunKept s t

/-- Z and N of a state are those of a byte: `SetNZ` (R30). -/
def ZNFrom (v : Byte) (t : State) : Prop := t.flag .z = decide (v.toNat = 0) ∧ t.flag .n = decide (128 ≤ v.toNat)

end Sys2Proof.Machine
end

