-- ==== Sys2Proof/Certificates/Slice0/Obligations.lean ====
section
/-! DEFINITION. The statements for the provers, each named by what it states and citing the rules it formalises. The
vocabulary (frames, witnesses of who writes what, the numbers R8 and R24 speak of) is that of Sys2Proof/Safety.lean. -/

open Sys2Proof Sys2Proof.Machine

/-- The grid of R87, which the decoder reads, and the lists of R88 to R92, which the encoder reads, name the same bytes, and
no operand bit is dropped or swapped (R85). Rests on the spec's own choice D15 (log 2). -/
def Obligations.EncodeThenDecode : Prop :=
  ∀ (i : Instr) (rest : List Byte), i.wellFormed = true → decode (encode i ++ rest) = .ok (i, rest)

/-- Where bytes are an instruction they are its only encoding (R80, R97: no aliases). Rests on the spec's own choice D15
(log 2). -/
def Obligations.DecodeThenEncode : Prop :=
  ∀ (bytes : List Byte) (i : Instr) (rest : List Byte), decode bytes = .ok (i, rest) → bytes = encode i ++ rest

/-- The byte sequences of R96, written out from the spec. Rests on the spec's own choices D15 and D20 (log 2). -/
def Obligations.SpecBytesDecode : Prop :=
  ∀ (bytes : List Byte) (i : Instr),
    (bytes, i) ∈
      [([0xE8], Instr.inx), ([0x0A], .aslAcc), ([0xA9, 0x01], .ldaImm 0x01), ([0xA5, 0x10], .ldaZp 0x10),
       ([0xB5, 0x10], .ldaZpx 0x10), ([0xB6, 0x10], .ldxZpy 0x10), ([0x8D, 0x00, 0x02], .staAbs 0x0200),
       ([0xBD, 0x00, 0x02], .ldaAbsx 0x0200), ([0xB9, 0x00, 0x02], .ldaAbsy 0x0200), ([0xA1, 0x20], .ldaIndx 0x20),
       ([0xB1, 0x20], .ldaIndy 0x20), ([0x6C, 0xFF, 0x30], .jmpInd 0x30FF), ([0xD0, 0xF9], .bne 0xF9)] →
      decode bytes = .ok (i, [])

/-- R94: the 105 bytes, that fetching one is the fatal failure, and that they are legal operand bytes. That the failure is a
next state is log 4. Rests on the spec's own choices D14 and D15 (log 2). -/
def Obligations.UnknownBytesRefused : Prop :=
  (∀ (op : Byte) (rest : List Byte), decode (op :: rest) = .error (.unknownOpcode op) ↔ op ∈ unknownOpcodeBytes)
    ∧ unknownOpcodeBytes.length = 105
    ∧ (∀ s : State, s.runState ≠ .halted → s.read s.pc ∈ unknownOpcodeBytes →
        ∃ t, step s = .next t ∧ t.runState = .halted ∧ t.haltCause = .unknownOpcode)
    ∧ (∀ (op : Byte) (i : Instr), op ∈ unknownOpcodeBytes → op ∈ i.operand.bytes → decode (encode i) = .ok (i, []))

/-- R10 and R251: fetch at PC, decode, execute; R32: the first step makes the unit Running. -/
def Obligations.StepRunsDecodedInstruction : Prop :=
  ∀ (s : State) (i : Instr) (rest : List Byte),
    s.runState ≠ .halted →
      decode [s.read s.pc, s.read (s.pc + 1), s.read (s.pc + 2)] = .ok (i, rest) →
        i.wellFormed = true → step s = exec i { s with runState := .running }

/-- R241: the state after an unknown opcode; no operand byte is read, nothing is pushed, no notification is given.
That it is a next state is log 4. Rests on the spec's own choice D14 (log 2). -/
def Obligations.UnknownOpcodeHaltsTheUnit : Prop :=
  ∀ s : State, s.runState ≠ .halted → s.read s.pc ∈ unknownOpcodeBytes →
    step s =
        .next
          { s with
            pc := BitVec.ofNat 16 (s.pc.toNat + 1)
            runState := .halted
            haltCause := .unknownOpcode
            faultRecord := some { byte := s.read s.pc, pc := s.pc } }
      ∧ stepEvents s = [.read s.pc (s.read s.pc)]
      ∧ ∀ q, (runWithCallback [q] s).2 = []

/-- R254: Halted is terminal. That the model answers a fault named haltedNoStep is its form of a state with no successor
(log 5). Rests on the spec's own choice D18 (log 2). -/
def Obligations.HaltedTakesNoStep : Prop :=
  ∀ s : State, s.runState = .halted →
    step s = .fault (.haltedNoStep s.haltCause s.faultRecord)
      ∧ stepEvents s = []
      ∧ ∀ requests, runWithCallback requests s = (s, [])

/-- R243: nothing else faults; U5: there is no further fault cause. That an unknown opcode has a next state and a Halted
state a fault is the model's form (log 4, log 5). Rests on the spec's own choice D18 (log 2). -/
def Obligations.DecodedInstructionsComplete : Prop :=
  (∀ (i : Instr) (s : State), ∃ t, exec i s = .next t)
    ∧ ∀ s : State, (∃ t, step s = .next t) ↔ s.runState ≠ .halted

/-- The document's example E1, for every operand and not only zero bytes. -/
def Obligations.PcAdvancesByLength : Prop :=
  ∀ (i : Instr) (s t : State), i.mnemonic ∉ pcWriters → exec i s = .next t →
    t.pc.toNat = (s.pc.toNat + (encode i).length) % 65536

/-- The table of R28, over all instructions. The premise is the part of the invariant (R29) that StepKeepsInvariant keeps.
Rests on the spec's own choices D5 and D16 (log 2). -/
def Obligations.FlagsChangeOnlyByTheirWriters : Prop :=
  ∀ (i : Instr) (f : Flag) (s t : State), s.flag .b2 = true → s.flag .b = false →
    exec i s = .next t → t.flag f ≠ s.flag f → i.mnemonic ∈ flagWriters f

/-- The table of R20 and the list of R24, over all instructions. -/
def Obligations.RegistersChangeOnlyByTheirWriters : Prop :=
  ∀ (i : Instr) (s t : State), exec i s = .next t →
    (∀ r, t.reg r ≠ s.reg r → writesReg r i = true) ∧ (t.sp ≠ s.sp → i.mnemonic ∈ spWriters)

/-- R34's list of the writers of memory, over all instructions. -/
def Obligations.MemoryChangesOnlyByStores : Prop :=
  ∀ (i : Instr) (s t : State), exec i s = .next t → t.mem ≠ s.mem → writesMem i = true

/-- R31 and R32, over all instructions; R224: BRK is the only instruction that halts the unit. Rests on the spec's own
choice D14 (log 2). -/
def Obligations.OnlyBrkChangesTheRunState : Prop :=
  ∀ (i : Instr) (s t : State), exec i s = .next t →
    (i ≠ .brk → RunKept s t)
      ∧ (i = .brk → t.runState = .halted ∧ t.haltCause = .brk ∧ t.faultRecord = s.faultRecord)

/-- R41, as an invariant of every step and not only of runs from Reset. That memory is held in a canonical form is the
model's (log 1). Rests on the spec's own choices D5 and D14 (log 2). -/
def Obligations.StepKeepsInvariant : Prop :=
  ∀ s t : State, s.Inv → step s = .next t → t.Inv

/-- The first half of R41. Rests on the spec's own choice D14 (log 2). -/
def Obligations.ResetMeetsInvariant : Prop :=
  State.reset.Inv

/-- R41 speaks of every reachable state: the host's moves between steps keep the invariant too. Rests on the spec's own
choice D24 (log 2). -/
def Obligations.HostMovesKeepInvariant : Prop :=
  ∀ s : State, s.Inv →
    s.hostReset.Inv
      ∧ (∀ bytes base, (s.loadBytes bytes base).Inv)
      ∧ (∀ addr w, (s.writeWord addr w).Inv)
      ∧ s.hostHalt.Inv
      ∧ ∀ requests, (runWithCallback requests s).1.Inv

/-- R53: no side effects beyond the written cell, and every address is writable. -/
def Obligations.ReadAfterWrite : Prop :=
  ∀ (s : State) (addr : Word) (v : Byte), Memory.wf s.mem = true →
    (∀ addr', (s.write addr v).read addr' = if addr' = addr then v else s.read addr')
      ∧ { s.write addr v with mem := s.mem } = s

/-- R54 and R55. The wrap at 0xFFFF and the byte order of writeWord are what R54 and R55 mark as derived. -/
def Obligations.WordAccessIsLittleEndian : Prop :=
  ∀ (s : State) (addr w : Word), Memory.wf s.mem = true →
    (s.readWord addr).toNat = wordNum (s.read (BitVec.ofNat 16 (addr.toNat + 1))) (s.read addr)
      ∧ ((s.writeWord addr w).read addr).toNat = w.toNat % 256
      ∧ ((s.writeWord addr w).read (BitVec.ofNat 16 (addr.toNat + 1))).toNat = w.toNat / 256
      ∧ MemKeptBut [addr, BitVec.ofNat 16 (addr.toNat + 1)] s (s.writeWord addr w)
      ∧ (s.writeWord addr w).readWord addr = w

/-- R56 and R272. A sequence longer than memory overwrites its own beginning, as the order of the writes says. Rests on
the spec's own choice D2 (log 2). The wrap at 0xFFFF is what R56 marks as derived. -/
def Obligations.LoadCopiesVerbatim : Prop :=
  ∀ (s : State) (bytes : List Byte) (base : Word), Memory.wf s.mem = true →
    (bytes.length ≤ 65536 → ∀ k v, bytes[k]? = some v →
        (s.loadBytes bytes base).read (BitVec.ofNat 16 (base.toNat + k)) = v)
      ∧ (∀ v, s.loadBytes (bytes ++ [v]) base =
          (s.loadBytes bytes base).write (BitVec.ofNat 16 (base.toNat + bytes.length)) v)
      ∧ (∀ addr, (∀ k, k < bytes.length → addr ≠ BitVec.ofNat 16 (base.toNat + k)) →
          (s.loadBytes bytes base).read addr = s.read addr)
      ∧ { s.loadBytes bytes base with mem := s.mem } = s
      ∧ s.load bytes = s.loadBytes bytes 0x0600

/-- R34: Mem is a function from address to byte; the model's list is one canonical form of it. -/
def Obligations.EqualReadsEqualMemory : Prop :=
  ∀ m m' : Memory, Memory.wf m = true → Memory.wf m' = true →
    (∀ addr : Word, memRead m addr.toNat = memRead m' addr.toNat) → m = m'

/-- R62 (a) and (c) over the history of R67 and R68: the state machine and the bus view agree. Rests on the spec's own
choice D17 (log 2). -/
def Obligations.StepEventsReplayToNextMemory : Prop :=
  ∀ s t : State, Memory.wf s.mem = true → step s = .next t → replay (stepEvents s) s.mem = some t.mem

/-- R59 with the order of R68. Rests on the spec's own choices D17 and D22 (log 2). -/
def Obligations.ReadModifyWriteOneReadOneWrite : Prop :=
  ∀ (i : Instr) (f : MemForm) (s t : State), Memory.wf s.mem = true →
    i.mnemonic ∈ [Mnemonic.inc, .dec, .asl, .lsr, .rol, .ror] → i.operand = .mem f → exec i s = .next t →
      instrEvents i s =
          s.fetchEvents i.length s.pc ++ pointerEvents i.operand s
            ++ [.read (memAddr f s) (s.read (memAddr f s)), .write (memAddr f s) (t.read (memAddr f s))]
        ∧ pointerEvents i.operand s = []

/-- R68, point 6. Rests on the spec's own choices D4, D6, D7 and D17 (log 2). -/
def Obligations.BrkBusOrder : Prop :=
  ∀ s : State, Memory.wf s.mem = true →
    instrEvents .brk s =
      [.read s.pc (s.read s.pc),
       .write (stackSlot s.sp.toNat) (highByte (s.pc + 2)),
       .write (stackSlot (s.sp.toNat + 255)) (lowByte (s.pc + 2)),
       .write (stackSlot (s.sp.toNat + 254)) (s.p ||| 0x30),
       .read 0xFFFE (s.read 0xFFFE),
       .read 0xFFFF (s.read 0xFFFF)]

/-- R113 to R115. -/
def Obligations.ZeroPageAddresses : Prop :=
  ∀ (s : State) (b : Byte),
    (memAddr (.zp b) s).toNat = b.toNat
      ∧ (memAddr (.zpx b) s).toNat = (b.toNat + s.x.toNat) % 256
      ∧ (memAddr (.zpy b) s).toNat = (b.toNat + s.y.toNat) % 256
      ∧ pageCrossed (.zp b) s = false ∧ pageCrossed (.zpx b) s = false ∧ pageCrossed (.zpy b) s = false
      ∧ ∀ m, admits m .zpy = true → m = .ldx ∨ m = .stx

/-- R116 to R118; for JMP and JSR the word is the target (JumpsSetPc, JsrPushesReturnAddress). -/
def Obligations.AbsoluteAddresses : Prop :=
  ∀ (s : State) (w : Word),
    (memAddr (.abs w) s).toNat = w.toNat
      ∧ (memAddr (.absx w) s).toNat = (w.toNat + s.x.toNat) % 65536
      ∧ (memAddr (.absy w) s).toNat = (w.toNat + s.y.toNat) % 65536
      ∧ pageCrossed (.abs w) s = false
      ∧ pageCrossed (.absx w) s = decide ((w.toNat + s.x.toNat) % 65536 / 256 ≠ w.toNat / 256)
      ∧ pageCrossed (.absy w) s = decide ((w.toNat + s.y.toNat) % 65536 / 256 ≠ w.toNat / 256)
      ∧ resolve (.target w) s = { ea := some w, pageCrossed := false }

/-- R119 and R120. Rests on the spec's own choice D12 (log 2). -/
def Obligations.IndirectAddresses : Prop :=
  ∀ (s : State) (b : Byte),
    (memAddr (.indx b) s).toNat =
        wordNum (s.read (zpSlot (b.toNat + s.x.toNat + 1))) (s.read (zpSlot (b.toNat + s.x.toNat)))
      ∧ (memAddr (.indy b) s).toNat =
        (wordNum (s.read (zpSlot (b.toNat + 1))) (s.read (zpSlot b.toNat)) + s.y.toNat) % 65536
      ∧ pageCrossed (.indx b) s = false
      ∧ pageCrossed (.indy b) s =
        decide ((memAddr (.indy b) s).toNat / 256 ≠ (s.read (zpSlot (b.toNat + 1))).toNat)

/-- R124 and R112. That IMM has no effective address, and that REL crosses no page, are the readings the model takes of the
two the spec leaves to a model (R112, R122; log 9). -/
def Obligations.OperandByteIsOneRead : Prop :=
  ∀ (s : State) (b : Byte) (f : MemForm),
    sourceByte (.imm b) s = b
      ∧ sourceByte (.mem f) s = s.read (memAddr f s)
      ∧ resolve (.mem f) s = { ea := some (memAddr f s), pageCrossed := pageCrossed f s }
      ∧ resolve .imp s = { ea := none, pageCrossed := false }
      ∧ resolve .acc s = { ea := none, pageCrossed := false }
      ∧ resolve (.imm b) s = { ea := none, pageCrossed := false }
      ∧ resolve (.rel b) s = { ea := none, pageCrossed := false }

/-- R131 to R133. -/
def Obligations.LoadsWriteRegisterAndZN : Prop :=
  ∀ (b : Byte) (w : Word) (s : State) (op : Byte) (i : Instr) (r : Reg) (src : Source),
    (op, i, r, src) ∈
      [(0xA9, Instr.ldaImm b, Reg.a, Source.imm b), (0xA5, Instr.ldaZp b, Reg.a, Source.mem (.zp b)),
       (0xB5, Instr.ldaZpx b, Reg.a, Source.mem (.zpx b)), (0xAD, Instr.ldaAbs w, Reg.a, Source.mem (.abs w)),
       (0xBD, Instr.ldaAbsx w, Reg.a, Source.mem (.absx w)),
       (0xB9, Instr.ldaAbsy w, Reg.a, Source.mem (.absy w)),
       (0xA1, Instr.ldaIndx b, Reg.a, Source.mem (.indx b)),
       (0xB1, Instr.ldaIndy b, Reg.a, Source.mem (.indy b)), (0xA2, Instr.ldxImm b, Reg.x, Source.imm b),
       (0xA6, Instr.ldxZp b, Reg.x, Source.mem (.zp b)), (0xB6, Instr.ldxZpy b, Reg.x, Source.mem (.zpy b)),
       (0xAE, Instr.ldxAbs w, Reg.x, Source.mem (.abs w)), (0xBE, Instr.ldxAbsy w, Reg.x, Source.mem (.absy w)),
       (0xA0, Instr.ldyImm b, Reg.y, Source.imm b), (0xA4, Instr.ldyZp b, Reg.y, Source.mem (.zp b)),
       (0xB4, Instr.ldyZpx b, Reg.y, Source.mem (.zpx b)), (0xAC, Instr.ldyAbs w, Reg.y, Source.mem (.abs w)),
       (0xBC, Instr.ldyAbsx w, Reg.y, Source.mem (.absx w))] →
      i.opcode = op
        ∧ ∃ t, exec i s = .next t
          ∧ t.reg r = sourceByte src s ∧ ZNFrom (sourceByte src s) t
          ∧ OnlyWrites [r] [.z, .n] s t ∧ PcPast (sourceLength src) s t

/-- R134 to R136. -/
def Obligations.StoresWriteOneByte : Prop :=
  ∀ (b : Byte) (w : Word) (s : State) (op : Byte) (i : Instr) (r : Reg) (f : MemForm), Memory.wf s.mem = true →
    (op, i, r, f) ∈
      [(0x85, Instr.staZp b, Reg.a, MemForm.zp b), (0x95, Instr.staZpx b, Reg.a, MemForm.zpx b),
       (0x8D, Instr.staAbs w, Reg.a, MemForm.abs w), (0x9D, Instr.staAbsx w, Reg.a, MemForm.absx w),
       (0x99, Instr.staAbsy w, Reg.a, MemForm.absy w), (0x81, Instr.staIndx b, Reg.a, MemForm.indx b),
       (0x91, Instr.staIndy b, Reg.a, MemForm.indy b), (0x86, Instr.stxZp b, Reg.x, MemForm.zp b),
       (0x96, Instr.stxZpy b, Reg.x, MemForm.zpy b), (0x8E, Instr.stxAbs w, Reg.x, MemForm.abs w),
       (0x84, Instr.styZp b, Reg.y, MemForm.zp b), (0x94, Instr.styZpx b, Reg.y, MemForm.zpx b),
       (0x8C, Instr.styAbs w, Reg.y, MemForm.abs w)] →
      i.opcode = op
        ∧ ∃ t, exec i s = .next t
          ∧ t.read (memAddr f s) = s.reg r ∧ MemKeptBut [memAddr f s] s t
          ∧ RegsKeptBut [] s t ∧ t.sp = s.sp ∧ FlagsKeptBut [] s t ∧ RunKept s t
          ∧ PcPast (memLength f) s t

/-- R137 to R142. -/
def Obligations.TransfersCopyAndSetZN : Prop :=
  (∀ (s : State) (op : Byte) (i : Instr) (r : Reg) (v : Byte),
      (op, i, r, v) ∈
        [(0xAA, Instr.tax, Reg.x, s.a), (0xA8, Instr.tay, Reg.y, s.a), (0x8A, Instr.txa, Reg.a, s.x),
         (0x98, Instr.tya, Reg.a, s.y), (0xBA, Instr.tsx, Reg.x, s.sp)] →
        i.opcode = op
          ∧ ∃ t, exec i s = .next t ∧ t.reg r = v ∧ ZNFrom v t ∧ OnlyWrites [r] [.z, .n] s t ∧ PcPast 1 s t)
    ∧ Instr.txs.opcode = 0x9A
    ∧ ∀ s : State, ∃ t, exec .txs s = .next t
        ∧ t.sp = s.x ∧ RegsKeptBut [] s t ∧ FlagsKeptBut [] s t ∧ MemKeptBut [] s t ∧ RunKept s t ∧ PcPast 1 s t

/-- R151, with the equivalence it claims for V. -/
def Obligations.AdderIsExact : Prop :=
  ∀ (a m : Byte) (c : Bool),
    (add8 a m c).result.toNat = (a.toNat + m.toNat + c.toNat) % 256
      ∧ (add8 a m c).carry = decide (a.toNat + m.toNat + c.toNat > 255)
      ∧ (add8 a m c).overflow =
        decide ((a ^^^ (add8 a m c).result) &&& (m ^^^ (add8 a m c).result) &&& 0x80 ≠ 0)
      ∧ (add8 a m c).overflow = decide (a.msb = m.msb ∧ (add8 a m c).result.msb ≠ a.msb)
      ∧ (add8 a m c).overflow =
        decide (signed a + signed m + c.toNat < -128 ∨ signed a + signed m + c.toNat > 127)

/-- R152 over the adder of R151. -/
def Obligations.AdcAddsWithCarry : Prop :=
  ∀ (b : Byte) (w : Word) (s : State) (op : Byte) (i : Instr) (src : Source),
    (op, i, src) ∈
      [(0x69, Instr.adcImm b, Source.imm b), (0x65, Instr.adcZp b, Source.mem (.zp b)),
       (0x75, Instr.adcZpx b, Source.mem (.zpx b)), (0x6D, Instr.adcAbs w, Source.mem (.abs w)),
       (0x7D, Instr.adcAbsx w, Source.mem (.absx w)), (0x79, Instr.adcAbsy w, Source.mem (.absy w)),
       (0x61, Instr.adcIndx b, Source.mem (.indx b)), (0x71, Instr.adcIndy b, Source.mem (.indy b))] →
      i.opcode = op
        ∧ ∃ t, exec i s = .next t
          ∧ t.a.toNat = (s.a.toNat + (sourceByte src s).toNat + (s.flag .c).toNat) % 256
          ∧ t.flag .c = decide (255 < s.a.toNat + (sourceByte src s).toNat + (s.flag .c).toNat)
          ∧ t.flag .v =
            decide (signed s.a + signed (sourceByte src s) + (s.flag .c).toNat < -128
              ∨ 127 < signed s.a + signed (sourceByte src s) + (s.flag .c).toNat)
          ∧ ZNFrom t.a t ∧ OnlyWrites [.a] [.c, .v, .z, .n] s t ∧ PcPast (sourceLength src) s t

/-- R154. Rests on the spec's own choice D25 (log 2). -/
def Obligations.SbcSubtractsWithBorrow : Prop :=
  ∀ (b : Byte) (w : Word) (s : State) (op : Byte) (i : Instr) (src : Source),
    (op, i, src) ∈
      [(0xE9, Instr.sbcImm b, Source.imm b), (0xE5, Instr.sbcZp b, Source.mem (.zp b)),
       (0xF5, Instr.sbcZpx b, Source.mem (.zpx b)), (0xED, Instr.sbcAbs w, Source.mem (.abs w)),
       (0xFD, Instr.sbcAbsx w, Source.mem (.absx w)), (0xF9, Instr.sbcAbsy w, Source.mem (.absy w)),
       (0xE1, Instr.sbcIndx b, Source.mem (.indx b)), (0xF1, Instr.sbcIndy b, Source.mem (.indy b))] →
      i.opcode = op
        ∧ ∃ t, exec i s = .next t
          ∧ (t.a.toNat : Int) = ((s.a.toNat : Int) - (sourceByte src s).toNat - (1 - (s.flag .c).toNat)) % 256
          ∧ t.flag .c = decide ((sourceByte src s).toNat + (1 - (s.flag .c).toNat) ≤ s.a.toNat)
          ∧ t.flag .v =
            decide (signed s.a - signed (sourceByte src s) - (1 - (s.flag .c).toNat) < -128
              ∨ 127 < signed s.a - signed (sourceByte src s) - (1 - (s.flag .c).toNat))
          ∧ ZNFrom t.a t ∧ OnlyWrites [.a] [.c, .v, .z, .n] s t ∧ PcPast (sourceLength src) s t

/-- R153: decimal mode does not exist. Rests on the spec's own choice D9 (log 2). -/
def Obligations.DecimalFlagIsInert : Prop :=
  ∀ (i : Instr) (s t u : State), i.mnemonic ∈ [Mnemonic.adc, .sbc] →
    exec i s = .next t → exec i (s.setP (setFlag .d (!s.flag .d) s.p)) = .next u →
      u.a = t.a ∧ ∀ f, f ≠ .d → u.flag f = t.flag f

/-- R155 to R157. -/
def Obligations.LogicIsBitwise : Prop :=
  ∀ (b : Byte) (w : Word) (s : State) (op : Byte) (i : Instr) (g : Bool → Bool → Bool) (src : Source),
    (op, i, g, src) ∈
      [(0x29, Instr.andImm b, and, Source.imm b), (0x25, Instr.andZp b, and, Source.mem (.zp b)),
       (0x35, Instr.andZpx b, and, Source.mem (.zpx b)), (0x2D, Instr.andAbs w, and, Source.mem (.abs w)),
       (0x3D, Instr.andAbsx w, and, Source.mem (.absx w)), (0x39, Instr.andAbsy w, and, Source.mem (.absy w)),
       (0x21, Instr.andIndx b, and, Source.mem (.indx b)), (0x31, Instr.andIndy b, and, Source.mem (.indy b)),
       (0x09, Instr.oraImm b, or, Source.imm b), (0x05, Instr.oraZp b, or, Source.mem (.zp b)),
       (0x15, Instr.oraZpx b, or, Source.mem (.zpx b)), (0x0D, Instr.oraAbs w, or, Source.mem (.abs w)),
       (0x1D, Instr.oraAbsx w, or, Source.mem (.absx w)), (0x19, Instr.oraAbsy w, or, Source.mem (.absy w)),
       (0x01, Instr.oraIndx b, or, Source.mem (.indx b)), (0x11, Instr.oraIndy b, or, Source.mem (.indy b)),
       (0x49, Instr.eorImm b, xor, Source.imm b), (0x45, Instr.eorZp b, xor, Source.mem (.zp b)),
       (0x55, Instr.eorZpx b, xor, Source.mem (.zpx b)), (0x4D, Instr.eorAbs w, xor, Source.mem (.abs w)),
       (0x5D, Instr.eorAbsx w, xor, Source.mem (.absx w)), (0x59, Instr.eorAbsy w, xor, Source.mem (.absy w)),
       (0x41, Instr.eorIndx b, xor, Source.mem (.indx b)), (0x51, Instr.eorIndy b, xor, Source.mem (.indy b))] →
      i.opcode = op
        ∧ ∃ t, exec i s = .next t
          ∧ (∀ k, k < 8 → t.a.getLsbD k = g (s.a.getLsbD k) ((sourceByte src s).getLsbD k))
          ∧ ZNFrom t.a t ∧ OnlyWrites [.a] [.z, .n] s t ∧ PcPast (sourceLength src) s t

/-- R158. -/
def Obligations.BitTestsMemory : Prop :=
  ∀ (b : Byte) (w : Word) (s : State) (op : Byte) (i : Instr) (f : MemForm),
    (op, i, f) ∈ [(0x24, Instr.bitZp b, MemForm.zp b), (0x2C, Instr.bitAbs w, MemForm.abs w)] →
      i.opcode = op
        ∧ ∃ t, exec i s = .next t
          ∧ t.flag .z = decide (s.a &&& s.read (memAddr f s) = 0)
          ∧ t.flag .n = (s.read (memAddr f s)).getLsbD 7
          ∧ t.flag .v = (s.read (memAddr f s)).getLsbD 6
          ∧ OnlyWrites [] [.z, .n, .v] s t ∧ PcPast (memLength f) s t

/-- R159 to R162. Rests on the spec's own choice D25 (log 2). -/
def Obligations.ComparesSetCZN : Prop :=
  ∀ (b : Byte) (w : Word) (s : State) (op : Byte) (i : Instr) (r : Reg) (src : Source),
    (op, i, r, src) ∈
      [(0xC9, Instr.cmpImm b, Reg.a, Source.imm b), (0xC5, Instr.cmpZp b, Reg.a, Source.mem (.zp b)),
       (0xD5, Instr.cmpZpx b, Reg.a, Source.mem (.zpx b)), (0xCD, Instr.cmpAbs w, Reg.a, Source.mem (.abs w)),
       (0xDD, Instr.cmpAbsx w, Reg.a, Source.mem (.absx w)),
       (0xD9, Instr.cmpAbsy w, Reg.a, Source.mem (.absy w)),
       (0xC1, Instr.cmpIndx b, Reg.a, Source.mem (.indx b)),
       (0xD1, Instr.cmpIndy b, Reg.a, Source.mem (.indy b)), (0xE0, Instr.cpxImm b, Reg.x, Source.imm b),
       (0xE4, Instr.cpxZp b, Reg.x, Source.mem (.zp b)), (0xEC, Instr.cpxAbs w, Reg.x, Source.mem (.abs w)),
       (0xC0, Instr.cpyImm b, Reg.y, Source.imm b), (0xC4, Instr.cpyZp b, Reg.y, Source.mem (.zp b)),
       (0xCC, Instr.cpyAbs w, Reg.y, Source.mem (.abs w))] →
      i.opcode = op
        ∧ ∃ t, exec i s = .next t
          ∧ t.flag .c = decide ((sourceByte src s).toNat ≤ (s.reg r).toNat)
          ∧ t.flag .z = decide ((s.reg r).toNat = (sourceByte src s).toNat)
          ∧ t.flag .n = decide (128 ≤ ((s.reg r).toNat + 256 - (sourceByte src s).toNat) % 256)
          ∧ OnlyWrites [] [.c, .z, .n] s t ∧ PcPast (sourceLength src) s t

/-- R163 and R164. -/
def Obligations.MemoryIncrementDecrement : Prop :=
  ∀ (b : Byte) (w : Word) (s : State) (op : Byte) (i : Instr) (d : Nat) (f : MemForm), Memory.wf s.mem = true →
    (op, i, d, f) ∈
      [(0xE6, Instr.incZp b, 1, MemForm.zp b), (0xF6, Instr.incZpx b, 1, MemForm.zpx b),
       (0xEE, Instr.incAbs w, 1, MemForm.abs w), (0xFE, Instr.incAbsx w, 1, MemForm.absx w),
       (0xC6, Instr.decZp b, 255, MemForm.zp b), (0xD6, Instr.decZpx b, 255, MemForm.zpx b),
       (0xCE, Instr.decAbs w, 255, MemForm.abs w), (0xDE, Instr.decAbsx w, 255, MemForm.absx w)] →
      i.opcode = op
        ∧ ∃ t, exec i s = .next t
          ∧ (t.read (memAddr f s)).toNat = ((s.read (memAddr f s)).toNat + d) % 256
          ∧ ZNFrom (t.read (memAddr f s)) t ∧ MemKeptBut [memAddr f s] s t
          ∧ RegsKeptBut [] s t ∧ t.sp = s.sp ∧ FlagsKeptBut [.z, .n] s t ∧ RunKept s t
          ∧ PcPast (memLength f) s t

/-- R165 to R168. -/
def Obligations.RegisterIncrementDecrement : Prop :=
  ∀ (s : State) (op : Byte) (i : Instr) (r : Reg) (d : Nat),
    (op, i, r, d) ∈
      [(0xE8, Instr.inx, Reg.x, 1), (0xC8, Instr.iny, Reg.y, 1), (0xCA, Instr.dex, Reg.x, 255),
       (0x88, Instr.dey, Reg.y, 255)] →
      i.opcode = op
        ∧ ∃ t, exec i s = .next t
          ∧ (t.reg r).toNat = ((s.reg r).toNat + d) % 256
          ∧ ZNFrom (t.reg r) t ∧ OnlyWrites [r] [.z, .n] s t ∧ PcPast 1 s t

/-- R180 to R184, format ACC. Rests on the spec's own choice D16 (log 2). -/
def Obligations.AccumulatorShifts : Prop :=
  ∀ (s : State) (op : Byte) (i : Instr) (res : Nat → Nat → Nat) (out : Nat → Bool),
    (op, i, res, out) ∈
      ([(0x0A, Instr.aslAcc, (fun v _ => 2 * v % 256), (fun v => decide (128 ≤ v))),
       (0x4A, Instr.lsrAcc, (fun v _ => v / 2), (fun v => decide (v % 2 = 1))),
       (0x2A, Instr.rolAcc, (fun v c => 2 * v % 256 + c), (fun v => decide (128 ≤ v))),
       (0x6A, Instr.rorAcc, (fun v c => v / 2 + 128 * c), (fun v => decide (v % 2 = 1)))] :
        List (Byte × Instr × (Nat → Nat → Nat) × (Nat → Bool))) →
      i.opcode = op
        ∧ ∃ t, exec i s = .next t
          ∧ t.a.toNat = res s.a.toNat (s.flag .c).toNat ∧ t.flag .c = out s.a.toNat
          ∧ ZNFrom t.a t ∧ OnlyWrites [.a] [.c, .z, .n] s t ∧ PcPast 1 s t

/-- R180 to R184, the memory formats. Rests on the spec's own choice D16 (log 2). -/
def Obligations.MemoryShifts : Prop :=
  ∀ (b : Byte) (w : Word) (s : State) (op : Byte) (i : Instr) (res : Nat → Nat → Nat) (out : Nat → Bool) (f : MemForm),
    Memory.wf s.mem = true →
    (op, i, res, out, f) ∈
      ([(0x06, Instr.aslZp b, (fun v _ => 2 * v % 256), (fun v => decide (128 ≤ v)), MemForm.zp b),
       (0x16, Instr.aslZpx b, (fun v _ => 2 * v % 256), (fun v => decide (128 ≤ v)), MemForm.zpx b),
       (0x0E, Instr.aslAbs w, (fun v _ => 2 * v % 256), (fun v => decide (128 ≤ v)), MemForm.abs w),
       (0x1E, Instr.aslAbsx w, (fun v _ => 2 * v % 256), (fun v => decide (128 ≤ v)), MemForm.absx w),
       (0x46, Instr.lsrZp b, (fun v _ => v / 2), (fun v => decide (v % 2 = 1)), MemForm.zp b),
       (0x56, Instr.lsrZpx b, (fun v _ => v / 2), (fun v => decide (v % 2 = 1)), MemForm.zpx b),
       (0x4E, Instr.lsrAbs w, (fun v _ => v / 2), (fun v => decide (v % 2 = 1)), MemForm.abs w),
       (0x5E, Instr.lsrAbsx w, (fun v _ => v / 2), (fun v => decide (v % 2 = 1)), MemForm.absx w),
       (0x26, Instr.rolZp b, (fun v c => 2 * v % 256 + c), (fun v => decide (128 ≤ v)), MemForm.zp b),
       (0x36, Instr.rolZpx b, (fun v c => 2 * v % 256 + c), (fun v => decide (128 ≤ v)), MemForm.zpx b),
       (0x2E, Instr.rolAbs w, (fun v c => 2 * v % 256 + c), (fun v => decide (128 ≤ v)), MemForm.abs w),
       (0x3E, Instr.rolAbsx w, (fun v c => 2 * v % 256 + c), (fun v => decide (128 ≤ v)), MemForm.absx w),
       (0x66, Instr.rorZp b, (fun v c => v / 2 + 128 * c), (fun v => decide (v % 2 = 1)), MemForm.zp b),
       (0x76, Instr.rorZpx b, (fun v c => v / 2 + 128 * c), (fun v => decide (v % 2 = 1)), MemForm.zpx b),
       (0x6E, Instr.rorAbs w, (fun v c => v / 2 + 128 * c), (fun v => decide (v % 2 = 1)), MemForm.abs w),
       (0x7E, Instr.rorAbsx w, (fun v c => v / 2 + 128 * c), (fun v => decide (v % 2 = 1)), MemForm.absx w)] :
        List (Byte × Instr × (Nat → Nat → Nat) × (Nat → Bool) × MemForm)) →
      i.opcode = op
        ∧ ∃ t, exec i s = .next t
          ∧ (t.read (memAddr f s)).toNat = res (s.read (memAddr f s)).toNat (s.flag .c).toNat
          ∧ t.flag .c = out (s.read (memAddr f s)).toNat
          ∧ ZNFrom (t.read (memAddr f s)) t ∧ MemKeptBut [memAddr f s] s t
          ∧ RegsKeptBut [] s t ∧ t.sp = s.sp ∧ FlagsKeptBut [.c, .z, .n] s t ∧ RunKept s t
          ∧ PcPast (memLength f) s t

/-- R183: it is a 9-bit rotation of (C, v): nine ROLs restore both. Rests on the spec's own choice D16 (log 2). -/
def Obligations.NineRotatesRestore : Prop :=
  (∀ (s : State) (i : Instr), i ∈ [Instr.rolAcc, .rorAcc] →
      ∃ run : Nat → State, run 0 = s
        ∧ (∀ k, k < 9 → exec i (run k) = .next (run (k + 1)))
        ∧ (run 9).a = s.a ∧ (run 9).flag .c = s.flag .c)
    ∧ (∀ (s : State) (i j : Instr), (i, j) ∈ [(Instr.rolAcc, Instr.rorAcc), (.rorAcc, .rolAcc)] →
      ∃ t u, exec i s = .next t ∧ exec j t = .next u ∧ u.a = s.a ∧ u.flag .c = s.flag .c)
    ∧ ∀ (v : Byte) (c : Bool),
      (fun r : Shifted => rolByte r.result r.out)^[9] { result := v, out := c } = { result := v, out := c }
        ∧ (fun r : Shifted => rorByte r.result r.out)^[9] { result := v, out := c } = { result := v, out := c }

/-- R190 to R198. Rests on the spec's own choice D13 (log 2). -/
def Obligations.BranchesTestOneFlag : Prop :=
  ∀ (b : Byte) (s : State) (op : Byte) (i : Instr) (f : Flag) (required : Bool),
    (op, i, f, required) ∈
      [(0x90, Instr.bcc b, Flag.c, false), (0xB0, Instr.bcs b, Flag.c, true), (0xF0, Instr.beq b, Flag.z, true),
       (0x30, Instr.bmi b, Flag.n, true), (0xD0, Instr.bne b, Flag.z, false), (0x10, Instr.bpl b, Flag.n, false),
       (0x50, Instr.bvc b, Flag.v, false), (0x70, Instr.bvs b, Flag.v, true)] →
      i.opcode = op
        ∧ ∃ t, exec i s = .next t
          ∧ (t.pc.toNat : Int) =
            (if s.flag f = required then ((s.pc.toNat : Int) + 2 + signed b) % 65536
              else ((s.pc.toNat : Int) + 2) % 65536)
          ∧ OnlyWrites [] [] s t

/-- R199, R121 and R200: the indirect form reproduces the documented hardware defect. -/
def Obligations.JumpsSetPc : Prop :=
  ∀ (s : State) (w : Word),
    (Instr.jmpAbs w).opcode = 0x4C
      ∧ exec (.jmpAbs w) s = .next { s with pc := w }
      ∧ (Instr.jmpInd w).opcode = 0x6C
      ∧ (∃ t, exec (.jmpInd w) s = .next t
        ∧ t.pc.toNat = wordNum (s.read (BitVec.ofNat 16 (w.toNat / 256 * 256 + (w.toNat + 1) % 256))) (s.read w)
        ∧ resolve (.ind w) s = { ea := some t.pc, pageCrossed := false }
        ∧ OnlyWrites [] [] s t)
      ∧ ∀ m, admits m .ind = true → m = .jmp

/-- R201. Rests on the spec's own choice D4 (log 2). -/
def Obligations.JsrPushesReturnAddress : Prop :=
  ∀ (s : State) (w : Word), Memory.wf s.mem = true →
    (Instr.jsr w).opcode = 0x20
      ∧ ∃ t, exec (.jsr w) s = .next t
        ∧ t.pc = w ∧ t.sp.toNat = (s.sp.toNat + 254) % 256
        ∧ (t.read (stackSlot s.sp.toNat)).toNat = (s.pc.toNat + 2) % 65536 / 256
        ∧ (t.read (stackSlot (s.sp.toNat + 255))).toNat = (s.pc.toNat + 2) % 65536 % 256
        ∧ MemKeptBut [stackSlot s.sp.toNat, stackSlot (s.sp.toNat + 255)] s t
        ∧ RegsKeptBut [] s t ∧ FlagsKeptBut [] s t ∧ RunKept s t

/-- R202. Rests on the spec's own choice D4 (log 2). -/
def Obligations.RtsPullsAndAddsOne : Prop :=
  ∀ s : State, Instr.rts.opcode = 0x60
    ∧ ∃ t, exec .rts s = .next t
      ∧ t.pc.toNat =
        (wordNum (s.read (stackSlot (s.sp.toNat + 2))) (s.read (stackSlot (s.sp.toNat + 1))) + 1) % 65536
      ∧ t.sp.toNat = (s.sp.toNat + 2) % 256
      ∧ RegsKeptBut [] s t ∧ FlagsKeptBut [] s t ∧ MemKeptBut [] s t ∧ RunKept s t

/-- The document's property E6, for every stack pointer and every target. Rests on the spec's own choice D4 (log 2). -/
def Obligations.CallThenReturnResumes : Prop :=
  ∀ (s : State) (w : Word), Memory.wf s.mem = true →
    ∃ t u, exec (.jsr w) s = .next t ∧ t.pc = w ∧ exec .rts t = .next u
      ∧ PcPast 3 s u ∧ u.sp = s.sp ∧ RegsKeptBut [] s u ∧ FlagsKeptBut [] s u ∧ RunKept s u

/-- R211 and R212 over R25 and R26. Rests on the spec's own choice D4 (log 2). -/
def Obligations.PhaPlaMoveOneByte : Prop :=
  ∀ s : State, Memory.wf s.mem = true →
    (Instr.pha.opcode = 0x48
      ∧ ∃ t, exec .pha s = .next t
        ∧ t.read (stackSlot s.sp.toNat) = s.a ∧ t.sp.toNat = (s.sp.toNat + 255) % 256
        ∧ MemKeptBut [stackSlot s.sp.toNat] s t ∧ RegsKeptBut [] s t ∧ FlagsKeptBut [] s t ∧ RunKept s t
        ∧ PcPast 1 s t)
      ∧ Instr.pla.opcode = 0x68
      ∧ ∃ t, exec .pla s = .next t
        ∧ t.a = s.read (stackSlot (s.sp.toNat + 1)) ∧ t.sp.toNat = (s.sp.toNat + 1) % 256
        ∧ ZNFrom t.a t ∧ RegsKeptBut [.a] s t ∧ FlagsKeptBut [.z, .n] s t ∧ MemKeptBut [] s t ∧ RunKept s t
        ∧ PcPast 1 s t

/-- R213 and R214. Rests on the spec's own choices D4 and D5 (log 2). -/
def Obligations.PhpPlpMoveStatus : Prop :=
  ∀ s : State, Memory.wf s.mem = true →
    (Instr.php.opcode = 0x08
      ∧ ∃ t, exec .php s = .next t
        ∧ t.read (stackSlot s.sp.toNat) = s.p ||| 0x30 ∧ t.sp.toNat = (s.sp.toNat + 255) % 256 ∧ t.p = s.p
        ∧ MemKeptBut [stackSlot s.sp.toNat] s t ∧ RegsKeptBut [] s t ∧ RunKept s t ∧ PcPast 1 s t)
      ∧ Instr.plp.opcode = 0x28
      ∧ ∃ t, exec .plp s = .next t
        ∧ t.sp.toNat = (s.sp.toNat + 1) % 256
        ∧ t.flag .b2 = true ∧ t.flag .b = false
        ∧ (∀ f, f ≠ .b2 → f ≠ .b → t.flag f = getFlag f (s.read (stackSlot (s.sp.toNat + 1))))
        ∧ RegsKeptBut [] s t ∧ MemKeptBut [] s t ∧ RunKept s t ∧ PcPast 1 s t

/-- The document's property E5 (R26) for any change of the registers in between, and its like for P (R214). Rests on the
spec's own choices D4 and D5 (log 2). -/
def Obligations.PushThenPullRestores : Prop :=
  ∀ s : State, s.Inv →
    (∃ t, exec .pha s = .next t
      ∧ ∀ t' : State, t'.mem = t.mem → t'.sp = t.sp → ∃ u, exec .pla t' = .next u ∧ u.a = s.a ∧ u.sp = s.sp)
      ∧ ∃ t, exec .php s = .next t
        ∧ ∀ t' : State, t'.mem = t.mem → t'.sp = t.sp → ∃ u, exec .plp t' = .next u ∧ u.p = s.p ∧ u.sp = s.sp

/-- R24: 256 consecutive pushes wrap the stack pointer back to its starting value without error. Rests on the spec's own
choice D4 (log 2). -/
def Obligations.TwoHundredFiftySixPushesWrap : Prop :=
  ∀ s : State, Memory.wf s.mem = true →
    ∃ run : Nat → State, run 0 = s
      ∧ (∀ k, k < 256 → exec .pha (run k) = .next (run (k + 1)))
      ∧ (run 256).sp = s.sp ∧ (run 256).a = s.a
      ∧ ∀ n, (run 256).read (stackSlot n) = s.a

/-- R215 to R221, and R210: exactly one flag is written and nothing else. Rests on the spec's own choice D16 (log 2). -/
def Obligations.FlagInstructionsWriteOneFlag : Prop :=
  ∀ (s : State) (op : Byte) (i : Instr) (f : Flag) (v : Bool),
    (op, i, f, v) ∈
      [(0x18, Instr.clc, Flag.c, false), (0x38, Instr.sec, Flag.c, true), (0x58, Instr.cli, Flag.i, false), (0x78, Instr.sei, Flag.i, true),
       (0xD8, Instr.cld, Flag.d, false), (0xF8, Instr.sed, Flag.d, true), (0xB8, Instr.clv, Flag.v, false)] →
      i.opcode = op
        ∧ ∃ t, exec i s = .next t ∧ t.flag f = v ∧ OnlyWrites [] [f] s t ∧ PcPast 1 s t

/-- R223. -/
def Obligations.NopChangesOnlyPc : Prop :=
  ∀ s : State, Instr.nop.opcode = 0xEA
    ∧ exec .nop s = .next { s with pc := BitVec.ofNat 16 (s.pc.toNat + 1) }
    ∧ instrEvents .nop s = [.read s.pc (s.read s.pc)]

/-- R224. Rests on the spec's own choices D4, D5, D6, D7 and D8 (log 2). -/
def Obligations.BrkSavesVectorsAndHalts : Prop :=
  ∀ s : State, Memory.wf s.mem = true →
    Instr.brk.opcode = 0x00
      ∧ ∃ t, exec .brk s = .next t
        ∧ (t.read (stackSlot s.sp.toNat)).toNat = (s.pc.toNat + 2) % 65536 / 256
        ∧ (t.read (stackSlot (s.sp.toNat + 255))).toNat = (s.pc.toNat + 2) % 65536 % 256
        ∧ t.read (stackSlot (s.sp.toNat + 254)) = s.p ||| 0x30
        ∧ MemKeptBut [stackSlot s.sp.toNat, stackSlot (s.sp.toNat + 255), stackSlot (s.sp.toNat + 254)] s t
        ∧ t.sp.toNat = (s.sp.toNat + 253) % 256
        ∧ t.flag .i = true ∧ FlagsKeptBut [.i] s t
        ∧ t.pc.toNat = wordNum (s.read 0xFFFF) (s.read 0xFFFE)
        ∧ t.runState = .halted ∧ t.haltCause = .brk ∧ t.faultRecord = s.faultRecord
        ∧ RegsKeptBut [] s t

/-- R225. Rests on the spec's own choices D4, D5 and D16 (log 2). -/
def Obligations.RtiRestoresStatusAndPc : Prop :=
  ∀ s : State, Instr.rti.opcode = 0x40
    ∧ ∃ t, exec .rti s = .next t
      ∧ t.flag .b2 = true ∧ t.flag .b = false
      ∧ (∀ f, f ≠ .b2 → f ≠ .b → t.flag f = getFlag f (s.read (stackSlot (s.sp.toNat + 1))))
      ∧ t.pc.toNat = wordNum (s.read (stackSlot (s.sp.toNat + 3))) (s.read (stackSlot (s.sp.toNat + 2)))
      ∧ t.sp.toNat = (s.sp.toNat + 3) % 256
      ∧ RegsKeptBut [] s t ∧ MemKeptBut [] s t ∧ RunKept s t

/-- R27. Rests on the spec's own choice D1 (log 2). -/
def Obligations.StatusBitPositions : Prop :=
  ∀ s : State,
    s.flag .n = s.p.getLsbD 7 ∧ s.flag .v = s.p.getLsbD 6 ∧ s.flag .b2 = s.p.getLsbD 5 ∧ s.flag .b = s.p.getLsbD 4
      ∧ s.flag .d = s.p.getLsbD 3 ∧ s.flag .i = s.p.getLsbD 2 ∧ s.flag .z = s.p.getLsbD 1 ∧ s.flag .c = s.p.getLsbD 0

/-- R38 and R270. That the model's reset state lists no byte of memory is its choice of MEM_INIT (log 1) and no part of
this. Rests on the spec's own choices D2 and D14 (log 2). -/
def Obligations.ResetSetsTheStatedValues : Prop :=
  ∀ s : State,
    s.hostReset =
        { a := 0x00, x := 0x00, y := 0x00, sp := 0xFD, pc := 0x0600, p := 0x24, runState := .reset,
          haltCause := .none, faultRecord := none, mem := s.mem }
      ∧ State.reset.hostReset = State.reset

/-- R255. Rests on the spec's own choice D24 (log 2). -/
def Obligations.ExternalHaltKeepsEverything : Prop :=
  ∀ s : State,
    (s.runState ≠ .halted → s.hostHalt = { s with runState := .halted, haltCause := .external })
      ∧ (s.runState = .halted → s.hostHalt = s)

/-- R252 and R253. Rests on the spec's own choice D19 (log 2). -/
def Obligations.RunNotifiesRetiredInstructions : Prop :=
  ∀ (s t : State) (q : Bool), s.runState ≠ .halted → step s = .next t →
    (runWithCallback [q] s).1 = (if q then t.hostHalt else t)
      ∧ (s.read s.pc ∉ unknownOpcodeBytes →
        (runWithCallback [q] s).2 = [{ a := t.a, x := t.x, y := t.y, sp := t.sp, pc := t.pc, p := t.p }])
      ∧ (s.read s.pc ∈ unknownOpcodeBytes → (runWithCallback [q] s).2 = [])

/-- R275: the end of a run is classified by HaltCause; R253 and R252: one notification per retired instruction, with the
state after it. That the list of requests bounds the run is log 12, that the end by an unknown opcode is a state log
4. Rests on the spec's own choices D14, D19 and D24 (log 2). -/
def Obligations.RunEndsAsItsCauseSays : Prop :=
  ∀ (requests : List Bool) (s t : State) (notified : List Handle), s.Inv → s.runState ≠ .halted →
    runWithCallback requests s = (t, notified) →
      (t.runState ≠ .halted → notified.length = requests.length ∧ true ∉ requests)
        ∧ (t.runState = .halted → t.haltCause ≠ .none)
        ∧ (t.haltCause = .brk → notified.getLast? = some t.observe ∧ t.faultRecord = none)
        ∧ (t.haltCause = .external →
          notified.getLast? = some t.observe ∧ t.faultRecord = none ∧ true ∈ requests)
        ∧ (t.haltCause = .unknownOpcode →
          ∃ r : FaultRecord, t.faultRecord = some r ∧ r.byte ∈ unknownOpcodeBytes ∧ t.read r.pc = r.byte
            ∧ t.pc.toNat = (r.pc.toNat + 1) % 65536 ∧ notified.length < requests.length)
end

