-- ==== Sys2Proof/Laws/Flags.lean ====
section
/-! SUPPORT. The laws of the status register: a flag read after a flag written, and the flags of each computation. -/

namespace Sys2Proof.Machine

/-- A flag read after a flag written: the written one, or as before. -/
@[simp] theorem getFlag_setFlag (f g : Flag) (v : Bool) (p : Byte) :
    getFlag f (setFlag g v p) = if f = g then v else getFlag f p := by
  cases f <;> cases g <;> cases v <;> simp [getFlag, setFlag, flagMask, flagBit]

/-- `SetNZ` writes N and Z and no other flag (R30). -/
@[simp] theorem getFlag_setNZ (f : Flag) (v p : Byte) :
    getFlag f (setNZ v p) = if f = .n then v.msb else if f = .z then v == 0 else getFlag f p := by
  simp [setNZ]

/-- The flags ADC and SBC write (R152, R154). -/
@[simp] theorem getFlag_sumFlags (f : Flag) (r : Sum) (p : Byte) :
    getFlag f (sumFlags r p) =
      if f = .n then r.result.msb else if f = .z then r.result == 0
      else if f = .v then r.overflow else if f = .c then r.carry else getFlag f p := by
  simp [sumFlags]

/-- The flags a compare writes (R159). -/
@[simp] theorem getFlag_compareFlags (f : Flag) (r m p : Byte) :
    getFlag f (compareFlags r m p) =
      if f = .n then (r - m).msb else if f = .z then r == m
      else if f = .c then decide (m.toNat ≤ r.toNat) else getFlag f p := by
  simp [compareFlags]

/-- The flags BIT writes (R158). -/
@[simp] theorem getFlag_bitFlags (f : Flag) (a m p : Byte) :
    getFlag f (bitFlags a m p) =
      if f = .v then m.getLsbD 6 else if f = .n then m.msb else if f = .z then a &&& m == 0 else getFlag f p := by
  simp [bitFlags]

/-- The flags a shift or rotate writes (R180). -/
@[simp] theorem getFlag_shiftFlags (f : Flag) (r : Shifted) (p : Byte) :
    getFlag f (shiftFlags r p) =
      if f = .n then r.result.msb else if f = .z then r.result == 0
      else if f = .c then r.out else getFlag f p := by
  simp [shiftFlags]

/-- The pushed copy has Break and Break2 set, the other flags as they were (R29 (b)). -/
@[simp] theorem getFlag_statusCopy (f : Flag) (p : Byte) :
    getFlag f (statusCopy p) = (decide (f = .b ∨ f = .b2) || getFlag f p) := by
  cases f <;> simp [getFlag, statusCopy, flagBit]

/-- A pulled status byte: Break2 set, Break clear, the other flags the byte's (R29 (c)). -/
@[simp] theorem getFlag_statusPulled (f : Flag) (v : Byte) :
    getFlag f (statusPulled v) = if f = .b2 then true else if f = .b then false else getFlag f v := by
  cases f <;> simp [getFlag, statusPulled, flagBit]

/-- Two status bytes with the same eight flags are equal. -/
theorem status_ext {p q : Byte} (h : ∀ f, getFlag f p = getFlag f q) : p = q := by
  apply BitVec.eq_of_getLsbD_eq
  intro k hk
  have hn := h .n; have hv := h .v; have hb2 := h .b2; have hb := h .b
  have hd := h .d; have hi := h .i; have hz := h .z; have hc := h .c
  simp only [getFlag, flagBit] at *
  interval_cases k <;> assumption

end Sys2Proof.Machine
end

