-- ==== Sys2Proof/Laws/Memory.lean ====
section
/-! SUPPORT. The laws of memory: a write keeps the canonical form, a read after a write, and two memories in canonical
form that read the same are equal. -/

namespace Sys2Proof.Machine

/-- A memory canonical from an address on is canonical from any smaller one on. -/
theorem memWfFrom_mono {lo lo' : Nat} (hle : lo' ≤ lo) {m : Memory} (h : memWfFrom lo m = true) :
    memWfFrom lo' m = true := by
  cases m with
  | nil => rfl
  | cons c rest =>
    obtain ⟨k, v⟩ := c
    simp only [memWfFrom, Bool.and_eq_true, decide_eq_true_eq] at h ⊢
    exact ⟨⟨⟨hle.trans h.1.1.1, h.1.1.2⟩, h.1.2⟩, h.2⟩

/-- Nothing is listed below the address a memory is canonical from. -/
theorem memRead_below {lo a : Nat} {m : Memory} (h : memWfFrom lo m = true) (ha : a < lo) :
    memRead m a = Config.memInit := by
  cases m with
  | nil => rfl
  | cons c rest =>
    obtain ⟨k, v⟩ := c
    simp only [memWfFrom, Bool.and_eq_true, decide_eq_true_eq] at h
    simp [memRead, show a < k by omega]

/-- A write keeps the canonical form. -/
theorem memWrite_wfFrom {lo a : Nat} {m : Memory} (v : Byte) (h : memWfFrom lo m = true)
    (hlo : lo ≤ a) (ha : a < 65536) : memWfFrom lo (memWrite m a v) = true := by
  induction m generalizing lo with
  | nil => by_cases hv : v = Config.memInit <;> simp [memWrite, memWfFrom, hv, hlo, ha]
  | cons c rest ih =>
    obtain ⟨k, w⟩ := c
    simp only [memWfFrom, Bool.and_eq_true, decide_eq_true_eq] at h
    obtain ⟨⟨⟨hk, hk'⟩, hw⟩, hrest⟩ := h
    rcases lt_trichotomy a k with hlt | heq | hgt
    · by_cases hv : v = Config.memInit
      · simp [memWrite, hlt, hv, memWfFrom, hk, hk', hw, hrest]
      · simp [memWrite, hlt, hv, memWfFrom, hlo, ha, hk', hw, hrest, Nat.succ_le_of_lt hlt]
    · subst heq
      by_cases hv : v = Config.memInit
      · simpa [memWrite, hv] using memWfFrom_mono (by omega) hrest
      · simp [memWrite, hv, memWfFrom, hlo, ha, hrest]
    · have hih := ih hrest (by omega : k + 1 ≤ a)
      simp [memWrite, show ¬ a < k by omega, show ¬ a = k by omega, memWfFrom, hk, hk', hw, hih]

/-- Every write of a state keeps its memory in canonical form. -/
theorem State.write_wf {s : State} (addr : Word) (v : Byte) (h : Memory.wf s.mem = true) :
    Memory.wf (s.write addr v).mem = true :=
  memWrite_wfFrom v h (Nat.zero_le _) addr.isLt

/-- Read after write, on a memory in canonical form (R52, R53). -/
theorem memRead_memWrite {lo : Nat} {m : Memory} (a b : Nat) (v : Byte) (h : memWfFrom lo m = true) :
    memRead (memWrite m a v) b = if b = a then v else memRead m b := by
  induction m generalizing lo with
  | nil =>
    by_cases hv : v = Config.memInit
    · simp [memWrite, hv, memRead]
    · by_cases hb : b = a
      · simp [memWrite, hv, memRead, hb]
      · simp [memWrite, hv, memRead, hb]
  | cons c rest ih =>
    obtain ⟨k, w⟩ := c
    simp only [memWfFrom, Bool.and_eq_true, decide_eq_true_eq] at h
    obtain ⟨-, hrest⟩ := h
    rcases lt_trichotomy a k with hlt | heq | hgt
    · by_cases hv : v = Config.memInit
      · by_cases hb : b = a
        · simp [memWrite, hlt, hv, memRead, hb]
        · simp [memWrite, hlt, hv, hb]
      · by_cases hb : b = a
        · simp [memWrite, hlt, hv, memRead, hb]
        · rcases Nat.lt_or_ge b a with hba | hba
          · simp [memWrite, hlt, hv, memRead, hb, hba, show b < k by omega]
          · simp [memWrite, hlt, hv, memRead, hb, show ¬ b < a by omega]
    · subst heq
      by_cases hv : v = Config.memInit
      · by_cases hb : b = a
        · subst hb
          simpa [memWrite, hv] using memRead_below hrest (Nat.lt_succ_self b)
        · rcases Nat.lt_or_ge b a with hba | hba
          · simpa [memWrite, hv, memRead, hb, hba] using memRead_below hrest (by omega : b < a + 1)
          · simp [memWrite, hv, memRead, hb, show ¬ b < a by omega]
      · by_cases hb : b = a
        · simp [memWrite, hv, memRead, hb]
        · simp [memWrite, hv, memRead, hb]
    · have hih := ih hrest
      by_cases hb : b = a
      · subst hb
        simp [memWrite, memRead, show ¬ b < k by omega, show ¬ b = k by omega, hih]
      · by_cases hbk : b < k
        · simp [memWrite, memRead, show ¬ a < k by omega, show ¬ a = k by omega, hb, hbk]
        · by_cases hbe : b = k
          · subst hbe
            simp [memWrite, memRead, show ¬ a < b by omega, show ¬ a = b by omega, hb]
          · simp [memWrite, memRead, show ¬ a < k by omega, show ¬ a = k by omega, hb, hbk, hbe, hih]

/-- Read after write, on a state (R52, R53). -/
theorem State.read_write {s : State} (h : Memory.wf s.mem = true) (addr addr' : Word) (v : Byte) :
    (s.write addr v).read addr' = if addr' = addr then v else s.read addr' := by
  have := memRead_memWrite addr.toNat addr'.toNat v h
  simp only [State.read, State.write, this, BitVec.toNat_inj]

/-- The first listed byte of a canonical memory reads as listed. -/
theorem memRead_head (k : Nat) (v : Byte) (rest : Memory) : memRead ((k, v) :: rest) k = v := by
  simp [memRead]

/-- Two memories in canonical form that read the same are the same list. -/
theorem mem_ext {lo : Nat} {m m' : Memory} (h : memWfFrom lo m = true) (h' : memWfFrom lo m' = true)
    (hr : ∀ a, memRead m a = memRead m' a) : m = m' := by
  induction m generalizing lo m' with
  | nil =>
    cases m' with
    | nil => rfl
    | cons c rest =>
      obtain ⟨k, v⟩ := c
      simp only [memWfFrom, Bool.and_eq_true, decide_eq_true_eq] at h'
      have := hr k
      rw [memRead_head] at this
      exact absurd this.symm h'.1.2
  | cons c rest ih =>
    obtain ⟨k, v⟩ := c
    simp only [memWfFrom, Bool.and_eq_true, decide_eq_true_eq] at h
    cases m' with
    | nil =>
      have := hr k
      rw [memRead_head] at this
      exact absurd this h.1.2
    | cons c' rest' =>
      obtain ⟨k', v'⟩ := c'
      simp only [memWfFrom, Bool.and_eq_true, decide_eq_true_eq] at h'
      have hkk : k = k' := by
        rcases lt_trichotomy k k' with hlt | heq | hgt
        · have := hr k
          rw [memRead_head] at this
          simp only [memRead, hlt, if_true] at this
          exact absurd this h.1.2
        · exact heq
        · have := hr k'
          rw [memRead_head] at this
          simp only [memRead, hgt, if_true] at this
          exact absurd this.symm h'.1.2
      subst hkk
      have hvv : v = v' := by simpa [memRead_head] using hr k
      subst hvv
      have htail : rest = rest' := by
        refine ih h.2 h'.2 fun a => ?_
        rcases Nat.lt_or_ge k a with hka | hka
        · simpa [memRead, show ¬ a < k by omega, show ¬ a = k by omega] using hr a
        · rw [memRead_below h.2 (by omega), memRead_below h'.2 (by omega)]
      rw [htail]

end Sys2Proof.Machine
end

