-- ==== Sys2Proof/Laws/State.lean ====
section
/-! SUPPORT. One lemma per field per update, true by rfl: no proof unfolds a record update. -/

namespace Sys2Proof.Machine

variable (s : State)

/-! ### One-field updates -/

@[simp] theorem State.setSP_a (v : Byte) : (s.setSP v).a = s.a := rfl
@[simp] theorem State.setSP_x (v : Byte) : (s.setSP v).x = s.x := rfl
@[simp] theorem State.setSP_y (v : Byte) : (s.setSP v).y = s.y := rfl
@[simp] theorem State.setSP_sp (v : Byte) : (s.setSP v).sp = v := rfl
@[simp] theorem State.setSP_pc (v : Byte) : (s.setSP v).pc = s.pc := rfl
@[simp] theorem State.setSP_p (v : Byte) : (s.setSP v).p = s.p := rfl
@[simp] theorem State.setSP_runState (v : Byte) : (s.setSP v).runState = s.runState := rfl
@[simp] theorem State.setSP_haltCause (v : Byte) : (s.setSP v).haltCause = s.haltCause := rfl
@[simp] theorem State.setSP_faultRecord (v : Byte) : (s.setSP v).faultRecord = s.faultRecord := rfl
@[simp] theorem State.setSP_mem (v : Byte) : (s.setSP v).mem = s.mem := rfl

@[simp] theorem State.setPC_a (v : Word) : (s.setPC v).a = s.a := rfl
@[simp] theorem State.setPC_x (v : Word) : (s.setPC v).x = s.x := rfl
@[simp] theorem State.setPC_y (v : Word) : (s.setPC v).y = s.y := rfl
@[simp] theorem State.setPC_sp (v : Word) : (s.setPC v).sp = s.sp := rfl
@[simp] theorem State.setPC_pc (v : Word) : (s.setPC v).pc = v := rfl
@[simp] theorem State.setPC_p (v : Word) : (s.setPC v).p = s.p := rfl
@[simp] theorem State.setPC_runState (v : Word) : (s.setPC v).runState = s.runState := rfl
@[simp] theorem State.setPC_haltCause (v : Word) : (s.setPC v).haltCause = s.haltCause := rfl
@[simp] theorem State.setPC_faultRecord (v : Word) : (s.setPC v).faultRecord = s.faultRecord := rfl
@[simp] theorem State.setPC_mem (v : Word) : (s.setPC v).mem = s.mem := rfl

@[simp] theorem State.setP_a (v : Byte) : (s.setP v).a = s.a := rfl
@[simp] theorem State.setP_x (v : Byte) : (s.setP v).x = s.x := rfl
@[simp] theorem State.setP_y (v : Byte) : (s.setP v).y = s.y := rfl
@[simp] theorem State.setP_sp (v : Byte) : (s.setP v).sp = s.sp := rfl
@[simp] theorem State.setP_pc (v : Byte) : (s.setP v).pc = s.pc := rfl
@[simp] theorem State.setP_p (v : Byte) : (s.setP v).p = v := rfl
@[simp] theorem State.setP_runState (v : Byte) : (s.setP v).runState = s.runState := rfl
@[simp] theorem State.setP_haltCause (v : Byte) : (s.setP v).haltCause = s.haltCause := rfl
@[simp] theorem State.setP_faultRecord (v : Byte) : (s.setP v).faultRecord = s.faultRecord := rfl
@[simp] theorem State.setP_mem (v : Byte) : (s.setP v).mem = s.mem := rfl

@[simp] theorem State.write_a (a : Word) (v : Byte) : (s.write a v).a = s.a := rfl
@[simp] theorem State.write_x (a : Word) (v : Byte) : (s.write a v).x = s.x := rfl
@[simp] theorem State.write_y (a : Word) (v : Byte) : (s.write a v).y = s.y := rfl
@[simp] theorem State.write_sp (a : Word) (v : Byte) : (s.write a v).sp = s.sp := rfl
@[simp] theorem State.write_pc (a : Word) (v : Byte) : (s.write a v).pc = s.pc := rfl
@[simp] theorem State.write_p (a : Word) (v : Byte) : (s.write a v).p = s.p := rfl
@[simp] theorem State.write_runState (a : Word) (v : Byte) : (s.write a v).runState = s.runState := rfl
@[simp] theorem State.write_haltCause (a : Word) (v : Byte) : (s.write a v).haltCause = s.haltCause := rfl
@[simp] theorem State.write_faultRecord (a : Word) (v : Byte) : (s.write a v).faultRecord = s.faultRecord := rfl
@[simp] theorem State.write_mem (a : Word) (v : Byte) : (s.write a v).mem = memWrite s.mem a.toNat v := rfl

@[simp] theorem State.advance_a (n : Nat) : (s.advance n).a = s.a := rfl
@[simp] theorem State.advance_x (n : Nat) : (s.advance n).x = s.x := rfl
@[simp] theorem State.advance_y (n : Nat) : (s.advance n).y = s.y := rfl
@[simp] theorem State.advance_sp (n : Nat) : (s.advance n).sp = s.sp := rfl
@[simp] theorem State.advance_pc (n : Nat) : (s.advance n).pc = s.pc + BitVec.ofNat 16 n := rfl
@[simp] theorem State.advance_p (n : Nat) : (s.advance n).p = s.p := rfl
@[simp] theorem State.advance_runState (n : Nat) : (s.advance n).runState = s.runState := rfl
@[simp] theorem State.advance_haltCause (n : Nat) : (s.advance n).haltCause = s.haltCause := rfl
@[simp] theorem State.advance_faultRecord (n : Nat) : (s.advance n).faultRecord = s.faultRecord := rfl
@[simp] theorem State.advance_mem (n : Nat) : (s.advance n).mem = s.mem := rfl

@[simp] theorem State.startStep_a : (s.startStep).a = s.a := rfl
@[simp] theorem State.startStep_x : (s.startStep).x = s.x := rfl
@[simp] theorem State.startStep_y : (s.startStep).y = s.y := rfl
@[simp] theorem State.startStep_sp : (s.startStep).sp = s.sp := rfl
@[simp] theorem State.startStep_pc : (s.startStep).pc = s.pc := rfl
@[simp] theorem State.startStep_p : (s.startStep).p = s.p := rfl
@[simp] theorem State.startStep_runState : (s.startStep).runState = .running := rfl
@[simp] theorem State.startStep_haltCause : (s.startStep).haltCause = s.haltCause := rfl
@[simp] theorem State.startStep_faultRecord : (s.startStep).faultRecord = s.faultRecord := rfl
@[simp] theorem State.startStep_mem : (s.startStep).mem = s.mem := rfl

@[simp] theorem State.haltBreak_a : (s.haltBreak).a = s.a := rfl
@[simp] theorem State.haltBreak_x : (s.haltBreak).x = s.x := rfl
@[simp] theorem State.haltBreak_y : (s.haltBreak).y = s.y := rfl
@[simp] theorem State.haltBreak_sp : (s.haltBreak).sp = s.sp := rfl
@[simp] theorem State.haltBreak_pc : (s.haltBreak).pc = s.pc := rfl
@[simp] theorem State.haltBreak_p : (s.haltBreak).p = s.p := rfl
@[simp] theorem State.haltBreak_runState : (s.haltBreak).runState = .halted := rfl
@[simp] theorem State.haltBreak_haltCause : (s.haltBreak).haltCause = .brk := rfl
@[simp] theorem State.haltBreak_faultRecord : (s.haltBreak).faultRecord = s.faultRecord := rfl
@[simp] theorem State.haltBreak_mem : (s.haltBreak).mem = s.mem := rfl

@[simp] theorem State.hostReset_a : (s.hostReset).a = 0x00 := rfl
@[simp] theorem State.hostReset_x : (s.hostReset).x = 0x00 := rfl
@[simp] theorem State.hostReset_y : (s.hostReset).y = 0x00 := rfl
@[simp] theorem State.hostReset_sp : (s.hostReset).sp = 0xFD := rfl
@[simp] theorem State.hostReset_pc : (s.hostReset).pc = Config.runAddr := rfl
@[simp] theorem State.hostReset_p : (s.hostReset).p = 0x24 := rfl
@[simp] theorem State.hostReset_runState : (s.hostReset).runState = .reset := rfl
@[simp] theorem State.hostReset_haltCause : (s.hostReset).haltCause = .none := rfl
@[simp] theorem State.hostReset_faultRecord : (s.hostReset).faultRecord = Option.none := rfl
@[simp] theorem State.hostReset_mem : (s.hostReset).mem = s.mem := rfl

@[simp] theorem State.takeUnknownOpcode_a : (s.takeUnknownOpcode).a = s.a := rfl
@[simp] theorem State.takeUnknownOpcode_x : (s.takeUnknownOpcode).x = s.x := rfl
@[simp] theorem State.takeUnknownOpcode_y : (s.takeUnknownOpcode).y = s.y := rfl
@[simp] theorem State.takeUnknownOpcode_sp : (s.takeUnknownOpcode).sp = s.sp := rfl
@[simp] theorem State.takeUnknownOpcode_pc : (s.takeUnknownOpcode).pc = s.pc + 1 := rfl
@[simp] theorem State.takeUnknownOpcode_p : (s.takeUnknownOpcode).p = s.p := rfl
@[simp] theorem State.takeUnknownOpcode_runState : (s.takeUnknownOpcode).runState = .halted := rfl
@[simp] theorem State.takeUnknownOpcode_haltCause : (s.takeUnknownOpcode).haltCause = .unknownOpcode := rfl
@[simp] theorem State.takeUnknownOpcode_faultRecord : (s.takeUnknownOpcode).faultRecord = some { byte := s.read s.pc, pc := s.pc } := rfl
@[simp] theorem State.takeUnknownOpcode_mem : (s.takeUnknownOpcode).mem = s.mem := rfl

/-! ### General registers: the fields no general register is -/

@[simp] theorem State.setReg_sp (r : Reg) (v : Byte) : (s.setReg r v).sp = s.sp := by cases r <;> rfl
@[simp] theorem State.setReg_pc (r : Reg) (v : Byte) : (s.setReg r v).pc = s.pc := by cases r <;> rfl
@[simp] theorem State.setReg_p (r : Reg) (v : Byte) : (s.setReg r v).p = s.p := by cases r <;> rfl
@[simp] theorem State.setReg_runState (r : Reg) (v : Byte) : (s.setReg r v).runState = s.runState := by cases r <;> rfl
@[simp] theorem State.setReg_haltCause (r : Reg) (v : Byte) : (s.setReg r v).haltCause = s.haltCause := by cases r <;> rfl
@[simp] theorem State.setReg_faultRecord (r : Reg) (v : Byte) : (s.setReg r v).faultRecord = s.faultRecord := by cases r <;> rfl
@[simp] theorem State.setReg_mem (r : Reg) (v : Byte) : (s.setReg r v).mem = s.mem := by cases r <;> rfl
@[simp] theorem State.setReg_a_a (v : Byte) : (s.setReg .a v).a = v := rfl
@[simp] theorem State.setReg_a_x (v : Byte) : (s.setReg .a v).x = s.x := rfl
@[simp] theorem State.setReg_a_y (v : Byte) : (s.setReg .a v).y = s.y := rfl
@[simp] theorem State.setReg_x_a (v : Byte) : (s.setReg .x v).a = s.a := rfl
@[simp] theorem State.setReg_x_x (v : Byte) : (s.setReg .x v).x = v := rfl
@[simp] theorem State.setReg_x_y (v : Byte) : (s.setReg .x v).y = s.y := rfl
@[simp] theorem State.setReg_y_a (v : Byte) : (s.setReg .y v).a = s.a := rfl
@[simp] theorem State.setReg_y_x (v : Byte) : (s.setReg .y v).x = s.x := rfl
@[simp] theorem State.setReg_y_y (v : Byte) : (s.setReg .y v).y = v := rfl

@[simp] theorem State.reg_a : s.reg .a = s.a := rfl
@[simp] theorem State.reg_x : s.reg .x = s.x := rfl
@[simp] theorem State.reg_y : s.reg .y = s.y := rfl

@[simp] theorem State.reg_setReg (r r' : Reg) (v : Byte) :
    (s.setReg r v).reg r' = if r' = r then v else s.reg r' := by
  cases r <;> cases r' <;> rfl

/-! ### Reads of registers, flags and memory through the updates -/

@[simp] theorem State.reg_setSP (v : Byte) (r : Reg) : (s.setSP v).reg r = s.reg r := by cases r <;> rfl
@[simp] theorem State.reg_setPC (v : Word) (r : Reg) : (s.setPC v).reg r = s.reg r := by cases r <;> rfl
@[simp] theorem State.reg_setP (v : Byte) (r : Reg) : (s.setP v).reg r = s.reg r := by cases r <;> rfl
@[simp] theorem State.reg_write (a : Word) (v : Byte) (r : Reg) : (s.write a v).reg r = s.reg r := by cases r <;> rfl
@[simp] theorem State.reg_advance (n : Nat) (r : Reg) : (s.advance n).reg r = s.reg r := by cases r <;> rfl
@[simp] theorem State.reg_startStep (r : Reg) : (s.startStep).reg r = s.reg r := by cases r <;> rfl
@[simp] theorem State.reg_haltBreak (r : Reg) : (s.haltBreak).reg r = s.reg r := by cases r <;> rfl
@[simp] theorem State.reg_takeUnknownOpcode (r : Reg) : (s.takeUnknownOpcode).reg r = s.reg r := by cases r <;> rfl

@[simp] theorem State.flag_setSP (v : Byte) (f : Flag) : (s.setSP v).flag f = s.flag f := rfl
@[simp] theorem State.flag_setPC (v : Word) (f : Flag) : (s.setPC v).flag f = s.flag f := rfl
@[simp] theorem State.flag_write (a : Word) (v : Byte) (f : Flag) : (s.write a v).flag f = s.flag f := rfl
@[simp] theorem State.flag_advance (n : Nat) (f : Flag) : (s.advance n).flag f = s.flag f := rfl
@[simp] theorem State.flag_startStep (f : Flag) : (s.startStep).flag f = s.flag f := rfl
@[simp] theorem State.flag_haltBreak (f : Flag) : (s.haltBreak).flag f = s.flag f := rfl
@[simp] theorem State.flag_takeUnknownOpcode (f : Flag) : (s.takeUnknownOpcode).flag f = s.flag f := rfl
@[simp] theorem State.flag_setP (v : Byte) (f : Flag) : (s.setP v).flag f = getFlag f v := rfl
@[simp] theorem State.flag_setReg (r : Reg) (v : Byte) (f : Flag) : (s.setReg r v).flag f = s.flag f := by
  cases r <;> rfl

@[simp] theorem State.read_setSP (v : Byte) (addr : Word) : (s.setSP v).read addr = s.read addr := rfl
@[simp] theorem State.read_setPC (v : Word) (addr : Word) : (s.setPC v).read addr = s.read addr := rfl
@[simp] theorem State.read_setP (v : Byte) (addr : Word) : (s.setP v).read addr = s.read addr := rfl
@[simp] theorem State.read_advance (n : Nat) (addr : Word) : (s.advance n).read addr = s.read addr := rfl
@[simp] theorem State.read_startStep (addr : Word) : (s.startStep).read addr = s.read addr := rfl
@[simp] theorem State.read_haltBreak (addr : Word) : (s.haltBreak).read addr = s.read addr := rfl
@[simp] theorem State.read_takeUnknownOpcode (addr : Word) : (s.takeUnknownOpcode).read addr = s.read addr := rfl
@[simp] theorem State.read_setReg (r : Reg) (v : Byte) (addr : Word) : (s.setReg r v).read addr = s.read addr := by
  cases r <;> rfl

end Sys2Proof.Machine
end

