-- ==== Sys2Proof/Laws/Ops.lean ====
section
/-! SUPPORT. What the shared operations over memory, the stack and the run state can do, once each: fetching, Push and
Pull, the trap entry and return, the host's moves, and the parts of the bus history. -/

namespace Sys2Proof.Machine

/-! ### Bytes and words -/

/-- The number of a joined word (R8). -/
theorem joinBytes_toNat (h l : Byte) : (joinBytes h l).toNat = wordNum h l := by
  have hl : l.toNat < 2 ^ 8 := l.isLt
  simp only [joinBytes, BitVec.toNat_append, wordNum, ← Nat.shiftLeft_add_eq_or_of_lt hl]
  simp [Nat.shiftLeft_eq]; omega

/-- The bits of a joined word (R8). -/
theorem joinBytes_getLsbD (h l : Byte) (k : Nat) :
    (joinBytes h l).getLsbD k = if k < 8 then l.getLsbD k else h.getLsbD (k - 8) := by
  have := BitVec.getLsbD_append (x := h) (y := l) (i := k)
  simpa [joinBytes, Bool.cond_decide] using this

theorem highByte_toNat (w : Word) : (highByte w).toNat = w.toNat / 256 := by
  simp [highByte, Nat.shiftRight_eq_div_pow]; omega

theorem lowByte_toNat (w : Word) : (lowByte w).toNat = w.toNat % 256 := by
  simp [lowByte]

@[simp] theorem joinBytes_high_low (w : Word) : joinBytes (highByte w) (lowByte w) = w := by
  apply BitVec.eq_of_toNat_eq
  rw [joinBytes_toNat, wordNum, highByte_toNat, lowByte_toNat]; omega

theorem zext16_toNat (b : Byte) : (zext16 b).toNat = b.toNat := by
  simp [zext16]; omega

/-- `sext_16` is the two's complement reading, modulo 65536 (R9). -/
theorem sext16_toInt (b : Byte) : ((sext16 b).toNat : Int) = signed b % 65536 := by
  have hb := b.isLt
  rcases Nat.lt_or_ge b.toNat 128 with h | h
  · have hm : b.msb = false := by simp [BitVec.msb_eq_decide]; omega
    simp [sext16, signed, BitVec.toNat_signExtend, hm, h]
  · have hm : b.msb = true := by simp [BitVec.msb_eq_decide]; omega
    simp [sext16, signed, BitVec.toNat_signExtend, hm, show ¬ b.toNat < 128 by omega]; omega

/-- The second address of an indirect jump keeps the page and increments within it (R121). -/
theorem same_page_next (w : Word) :
    ((w &&& 0xFF00) ||| ((w + 1) &&& 0x00FF)) = BitVec.ofNat 16 (w.toNat / 256 * 256 + (w.toNat + 1) % 256) := by
  have hjoin : ((w &&& 0xFF00) ||| ((w + 1) &&& 0x00FF)) = joinBytes (highByte w) (lowByte (w + 1)) := by
    apply BitVec.eq_of_getLsbD_eq
    intro k hk
    rw [joinBytes_getLsbD, BitVec.getLsbD_or, BitVec.getLsbD_and, BitVec.getLsbD_and]
    simp only [highByte, lowByte, BitVec.getLsbD_extractLsb']
    generalize w + 1 = w'
    interval_cases k <;> simp
  rw [hjoin]
  apply BitVec.eq_of_toNat_eq
  rw [joinBytes_toNat, wordNum, highByte_toNat, lowByte_toNat, BitVec.toNat_add]
  simp; omega

/-- A zero-page address is its byte (R113). -/
theorem zext16_eq_slot (b : Byte) (n : Nat) (h : b.toNat = n % 256) : zext16 b = zpSlot n := by
  apply BitVec.eq_of_toNat_eq
  rw [zext16_toNat]; simp [zpSlot]; omega

/-! ### The stack -/

theorem stackAddr_eq_slot (sp : Byte) : stackAddr sp = stackSlot sp.toNat := by
  apply BitVec.eq_of_toNat_eq
  have := sp.isLt
  simp [stackAddr, stackSlot, zext16_toNat]; omega

theorem stackSlot_mod (n : Nat) : stackSlot (n % 256) = stackSlot n := by
  simp [stackSlot]

/-- Two stack slots are the same location exactly when the pointer values agree modulo 256. -/
theorem stackSlot_inj (n m : Nat) : stackSlot n = stackSlot m ↔ n % 256 = m % 256 := by
  constructor
  · intro h
    have := congrArg BitVec.toNat h
    simp [stackSlot] at this; omega
  · intro h
    simp [stackSlot, h]

theorem stackAddr_sub (sp d : Byte) : stackAddr (sp - d) = stackSlot (sp.toNat + (256 - d.toNat)) := by
  rw [stackAddr_eq_slot, stackSlot_inj]
  simp [BitVec.toNat_sub]; omega

theorem stackAddr_add (sp d : Byte) : stackAddr (sp + d) = stackSlot (sp.toNat + d.toNat) := by
  rw [stackAddr_eq_slot, stackSlot_inj]
  simp [BitVec.toNat_add]

theorem stackAddr_sub_one (sp : Byte) : stackAddr (sp - 1) = stackSlot (sp.toNat + 255) := stackAddr_sub sp 1

theorem stackAddr_sub_two (sp : Byte) : stackAddr (sp - 1 - 1) = stackSlot (sp.toNat + 254) := by
  rw [stackAddr_eq_slot, stackSlot_inj]
  simp [BitVec.toNat_sub]; omega

theorem stackAddr_add_one (sp : Byte) : stackAddr (sp + 1) = stackSlot (sp.toNat + 1) := stackAddr_add sp 1

theorem stackAddr_add_two (sp : Byte) : stackAddr (sp + 1 + 1) = stackSlot (sp.toNat + 2) := by
  rw [stackAddr_eq_slot, stackSlot_inj]
  simp [BitVec.toNat_add]

theorem stackAddr_add_three (sp : Byte) : stackAddr (sp + 1 + 1 + 1) = stackSlot (sp.toNat + 3) := by
  rw [stackAddr_eq_slot, stackSlot_inj]
  simp [BitVec.toNat_add]

variable (s : State)

@[simp] theorem State.push_a (v : Byte) : (s.push v).a = s.a := by simp [State.push]
@[simp] theorem State.push_x (v : Byte) : (s.push v).x = s.x := by simp [State.push]
@[simp] theorem State.push_y (v : Byte) : (s.push v).y = s.y := by simp [State.push]
@[simp] theorem State.push_sp (v : Byte) : (s.push v).sp = s.sp - 1 := by simp [State.push]
@[simp] theorem State.push_pc (v : Byte) : (s.push v).pc = s.pc := by simp [State.push]
@[simp] theorem State.push_p (v : Byte) : (s.push v).p = s.p := by simp [State.push]
@[simp] theorem State.push_runState (v : Byte) : (s.push v).runState = s.runState := by simp [State.push]
@[simp] theorem State.push_haltCause (v : Byte) : (s.push v).haltCause = s.haltCause := by simp [State.push]
@[simp] theorem State.push_faultRecord (v : Byte) : (s.push v).faultRecord = s.faultRecord := by simp [State.push]
@[simp] theorem State.push_mem (v : Byte) : (s.push v).mem = memWrite s.mem (stackAddr s.sp).toNat v := by simp [State.push]
@[simp] theorem State.reg_push (v : Byte) (r : Reg) : (s.push v).reg r = s.reg r := by simp [State.push]
@[simp] theorem State.flag_push (v : Byte) (f : Flag) : (s.push v).flag f = s.flag f := by simp [State.push]

/-- Push keeps the canonical form. -/
theorem State.push_wf {s : State} (v : Byte) (h : Memory.wf s.mem = true) : Memory.wf (s.push v).mem = true :=
  State.write_wf _ v h

/-- What memory reads as after a Push (R25). -/
theorem State.read_push {s : State} (h : Memory.wf s.mem = true) (v : Byte) (addr : Word) :
    (s.push v).read addr = if addr = stackAddr s.sp then v else s.read addr :=
  State.read_write h _ _ v

@[simp] theorem State.pull_byte : s.pull.1 = s.read (stackAddr (s.sp + 1)) := by simp [State.pull]
@[simp] theorem State.pull_a : (s.pull.2).a = s.a := by simp [State.pull]
@[simp] theorem State.pull_x : (s.pull.2).x = s.x := by simp [State.pull]
@[simp] theorem State.pull_y : (s.pull.2).y = s.y := by simp [State.pull]
@[simp] theorem State.pull_sp : (s.pull.2).sp = s.sp + 1 := by simp [State.pull]
@[simp] theorem State.pull_pc : (s.pull.2).pc = s.pc := by simp [State.pull]
@[simp] theorem State.pull_p : (s.pull.2).p = s.p := by simp [State.pull]
@[simp] theorem State.pull_runState : (s.pull.2).runState = s.runState := by simp [State.pull]
@[simp] theorem State.pull_haltCause : (s.pull.2).haltCause = s.haltCause := by simp [State.pull]
@[simp] theorem State.pull_faultRecord : (s.pull.2).faultRecord = s.faultRecord := by simp [State.pull]
@[simp] theorem State.pull_mem : (s.pull.2).mem = s.mem := by simp [State.pull]
@[simp] theorem State.reg_pull (r : Reg) : (s.pull.2).reg r = s.reg r := by simp [State.pull]
@[simp] theorem State.flag_pull (f : Flag) : (s.pull.2).flag f = s.flag f := by simp [State.pull]
@[simp] theorem State.read_pull (addr : Word) : s.pull.2.read addr = s.read addr := by simp [State.pull]

@[simp] theorem State.pushWord_a (w : Word) : (s.pushWord w).a = s.a := by simp [State.pushWord]
@[simp] theorem State.pushWord_x (w : Word) : (s.pushWord w).x = s.x := by simp [State.pushWord]
@[simp] theorem State.pushWord_y (w : Word) : (s.pushWord w).y = s.y := by simp [State.pushWord]
@[simp] theorem State.pushWord_sp (w : Word) : (s.pushWord w).sp = s.sp - 1 - 1 := by simp [State.pushWord]
@[simp] theorem State.pushWord_pc (w : Word) : (s.pushWord w).pc = s.pc := by simp [State.pushWord]
@[simp] theorem State.pushWord_p (w : Word) : (s.pushWord w).p = s.p := by simp [State.pushWord]
@[simp] theorem State.pushWord_runState (w : Word) : (s.pushWord w).runState = s.runState := by simp [State.pushWord]
@[simp] theorem State.pushWord_haltCause (w : Word) : (s.pushWord w).haltCause = s.haltCause := by simp [State.pushWord]
@[simp] theorem State.pushWord_faultRecord (w : Word) : (s.pushWord w).faultRecord = s.faultRecord := by simp [State.pushWord]
@[simp] theorem State.pushWord_mem (w : Word) : (s.pushWord w).mem =
    memWrite (memWrite s.mem (stackAddr s.sp).toNat (highByte w)) (stackAddr (s.sp - 1)).toNat (lowByte w) := by simp [State.pushWord]
@[simp] theorem State.reg_pushWord (w : Word) (r : Reg) : (s.pushWord w).reg r = s.reg r := by simp [State.pushWord]
@[simp] theorem State.flag_pushWord (w : Word) (f : Flag) : (s.pushWord w).flag f = s.flag f := by simp [State.pushWord]

/-- A word pushed keeps the canonical form. -/
theorem State.pushWord_wf {s : State} (w : Word) (h : Memory.wf s.mem = true) :
    Memory.wf (s.pushWord w).mem = true :=
  State.push_wf _ (State.push_wf _ h)

/-- What memory reads as after a word is pushed, high byte first (R201). -/
theorem State.read_pushWord {s : State} (h : Memory.wf s.mem = true) (w : Word) (addr : Word) :
    (s.pushWord w).read addr =
      if addr = stackAddr (s.sp - 1) then lowByte w
      else if addr = stackAddr s.sp then highByte w else s.read addr := by
  unfold State.pushWord
  rw [State.read_push (State.push_wf _ h), State.read_push h]
  rfl

/-- The word pulled: low byte at SP + 1, high byte at SP + 2 (R202). -/
@[simp] theorem State.pullWord_word :
    s.pullWord.1 = joinBytes (s.read (stackAddr (s.sp + 1 + 1))) (s.read (stackAddr (s.sp + 1))) := by simp [State.pullWord]
@[simp] theorem State.pullWord_a : (s.pullWord.2).a = s.a := by simp [State.pullWord]
@[simp] theorem State.pullWord_x : (s.pullWord.2).x = s.x := by simp [State.pullWord]
@[simp] theorem State.pullWord_y : (s.pullWord.2).y = s.y := by simp [State.pullWord]
@[simp] theorem State.pullWord_sp : (s.pullWord.2).sp = s.sp + 1 + 1 := by simp [State.pullWord]
@[simp] theorem State.pullWord_pc : (s.pullWord.2).pc = s.pc := by simp [State.pullWord]
@[simp] theorem State.pullWord_p : (s.pullWord.2).p = s.p := by simp [State.pullWord]
@[simp] theorem State.pullWord_runState : (s.pullWord.2).runState = s.runState := by simp [State.pullWord]
@[simp] theorem State.pullWord_haltCause : (s.pullWord.2).haltCause = s.haltCause := by simp [State.pullWord]
@[simp] theorem State.pullWord_faultRecord : (s.pullWord.2).faultRecord = s.faultRecord := by simp [State.pullWord]
@[simp] theorem State.pullWord_mem : (s.pullWord.2).mem = s.mem := by simp [State.pullWord]
@[simp] theorem State.reg_pullWord (r : Reg) : (s.pullWord.2).reg r = s.reg r := by simp [State.pullWord]
@[simp] theorem State.flag_pullWord (f : Flag) : (s.pullWord.2).flag f = s.flag f := by simp [State.pullWord]
@[simp] theorem State.read_pullWord (addr : Word) : s.pullWord.2.read addr = s.read addr := by simp [State.pullWord]

/-! ### Trap entry and return (R247, R248) -/

@[simp] theorem State.trapEntry_a (ret : Word) : (s.trapEntry ret).a = s.a := by simp [State.trapEntry]
@[simp] theorem State.trapEntry_x (ret : Word) : (s.trapEntry ret).x = s.x := by simp [State.trapEntry]
@[simp] theorem State.trapEntry_y (ret : Word) : (s.trapEntry ret).y = s.y := by simp [State.trapEntry]
@[simp] theorem State.trapEntry_sp (ret : Word) : (s.trapEntry ret).sp = s.sp - 1 - 1 - 1 := by simp [State.trapEntry]
@[simp] theorem State.trapEntry_pc (ret : Word) : (s.trapEntry ret).pc =
    ((s.pushWord ret).push (statusCopy s.p)).readWord Config.brkVector := by simp [State.trapEntry]
@[simp] theorem State.trapEntry_p (ret : Word) : (s.trapEntry ret).p = setFlag .i true s.p := by simp [State.trapEntry]
@[simp] theorem State.trapEntry_runState (ret : Word) : (s.trapEntry ret).runState = s.runState := by simp [State.trapEntry]
@[simp] theorem State.trapEntry_haltCause (ret : Word) : (s.trapEntry ret).haltCause = s.haltCause := by simp [State.trapEntry]
@[simp] theorem State.trapEntry_faultRecord (ret : Word) : (s.trapEntry ret).faultRecord = s.faultRecord := by simp [State.trapEntry]
@[simp] theorem State.trapEntry_mem (ret : Word) : (s.trapEntry ret).mem = ((s.pushWord ret).push (statusCopy s.p)).mem := by simp [State.trapEntry]
@[simp] theorem State.reg_trapEntry (ret : Word) (r : Reg) : (s.trapEntry ret).reg r = s.reg r := by simp [State.trapEntry]

/-- Trap entry keeps the canonical form. -/
theorem State.trapEntry_wf {s : State} (ret : Word) (h : Memory.wf s.mem = true) :
    Memory.wf (s.trapEntry ret).mem = true :=
  State.push_wf _ (State.pushWord_wf _ h)

/-- What memory reads as after a trap entry: the three bytes of the frame (R224). -/
theorem State.read_trapEntry {s : State} (h : Memory.wf s.mem = true) (ret : Word) (addr : Word) :
    (s.trapEntry ret).read addr =
      if addr = stackAddr (s.sp - 1 - 1) then statusCopy s.p
      else if addr = stackAddr (s.sp - 1) then lowByte ret
      else if addr = stackAddr s.sp then highByte ret else s.read addr := by
  show ((s.pushWord ret).push (statusCopy s.p)).read addr = _
  rw [State.read_push (State.pushWord_wf _ h), State.read_pushWord h]
  rfl

/-- A location outside the stack page is not a stack location. -/
theorem not_stack_of_ge {addr : Word} (h : 0x0200 ≤ addr.toNat) (sp : Byte) : addr ≠ stackAddr sp := by
  intro he
  have := congrArg BitVec.toNat he
  rw [stackAddr_eq_slot] at this
  simp [stackSlot] at this; omega

@[simp] theorem State.trapReturn_a : (s.trapReturn).a = s.a := by simp [State.trapReturn]
@[simp] theorem State.trapReturn_x : (s.trapReturn).x = s.x := by simp [State.trapReturn]
@[simp] theorem State.trapReturn_y : (s.trapReturn).y = s.y := by simp [State.trapReturn]
@[simp] theorem State.trapReturn_sp : (s.trapReturn).sp = s.sp + 1 + 1 + 1 := by simp [State.trapReturn]
@[simp] theorem State.trapReturn_pc : (s.trapReturn).pc =
    joinBytes (s.read (stackAddr (s.sp + 1 + 1 + 1))) (s.read (stackAddr (s.sp + 1 + 1))) := by simp [State.trapReturn]
@[simp] theorem State.trapReturn_p : (s.trapReturn).p = statusPulled (s.read (stackAddr (s.sp + 1))) := by simp [State.trapReturn]
@[simp] theorem State.trapReturn_runState : (s.trapReturn).runState = s.runState := by simp [State.trapReturn]
@[simp] theorem State.trapReturn_haltCause : (s.trapReturn).haltCause = s.haltCause := by simp [State.trapReturn]
@[simp] theorem State.trapReturn_faultRecord : (s.trapReturn).faultRecord = s.faultRecord := by simp [State.trapReturn]
@[simp] theorem State.trapReturn_mem : (s.trapReturn).mem = s.mem := by simp [State.trapReturn]
@[simp] theorem State.reg_trapReturn (r : Reg) : (s.trapReturn).reg r = s.reg r := by simp [State.trapReturn]
@[simp] theorem State.read_trapReturn (addr : Word) : s.trapReturn.read addr = s.read addr := by simp [State.trapReturn]

/-! ### Fetching and the run state -/

@[simp] theorem State.isHalted_iff : s.isHalted = true ↔ s.runState = .halted := by simp [State.isHalted]

@[simp] theorem State.fetch_startStep : s.startStep.fetch = s.fetch := rfl

/-- What a step answers, in its three cases (R10, R241, R254). -/
theorem step_cases (s : State) :
    (s.runState = .halted ∧ step s = .fault (.haltedNoStep s.haltCause s.faultRecord))
      ∨ (s.runState ≠ .halted ∧ ∃ i, s.fetch = .ok i ∧ step s = exec i s.startStep)
      ∨ (s.runState ≠ .halted ∧ ∃ e, s.fetch = .error e ∧ step s = .next s.startStep.takeUnknownOpcode) := by
  by_cases h : s.runState = .halted
  · exact .inl ⟨h, by simp [step, State.isHalted, h]⟩
  · cases hf : s.fetch with
    | ok i => exact .inr (.inl ⟨h, i, rfl, by simp [step, State.isHalted, h, hf]⟩)
    | error e => exact .inr (.inr ⟨h, e, rfl, by simp [step, State.isHalted, h, hf]⟩)

/-- A list of bytes written in order: no register, no flag, no run-state field changes (R56). -/
theorem State.loadBytes_regs (bytes : List Byte) (base : Word) :
    { s.loadBytes bytes base with mem := s.mem } = s := by
  induction bytes generalizing s base with
  | nil => rfl
  | cons b rest ih =>
    have h := ih (s.write base b) (base + 1)
    have h' := congrArg (fun t : State => ({ t with mem := s.mem } : State)) h
    exact h'

/-- Load keeps the canonical form. -/
theorem State.loadBytes_wf {s : State} (bytes : List Byte) (base : Word) (h : Memory.wf s.mem = true) :
    Memory.wf (s.loadBytes bytes base).mem = true := by
  induction bytes generalizing s base with
  | nil => exact h
  | cons b rest ih => exact ih (base + 1) (State.write_wf base b h)

/-! ### Runs -/

@[simp] theorem State.afterStep_false : s.afterStep false = s := rfl
@[simp] theorem State.afterStep_true : s.afterStep true = s.hostHalt := rfl

/-- A run that takes its first step: the notification, if the step retired an instruction, then the rest (R253). -/
theorem runWithCallback_next {s t : State} (h : step s = .next t) (q : Bool) (rest : List Bool) :
    runWithCallback (q :: rest) s =
      ((runWithCallback rest (t.afterStep q)).1,
        (if s.retires then [t.observe] else []) ++ (runWithCallback rest (t.afterStep q)).2) := by
  simp only [runWithCallback, h]
  split <;> rfl

/-- A run that cannot take its first step is over. -/
theorem runWithCallback_stop {s : State} (h : ∀ t, step s ≠ .next t) (requests : List Bool) :
    runWithCallback requests s = (s, []) := by
  cases requests with
  | nil => rfl
  | cons q rest =>
    cases hs : step s with
    | next t => exact absurd hs (h t)
    | fault f => simp [runWithCallback, hs]
    | refused r => simp [runWithCallback, hs]

/-- A run may be cut anywhere: nothing is kept between steps but the state (R37, R251). -/
theorem runWithCallback_append (r1 r2 : List Bool) (s : State) :
    runWithCallback (r1 ++ r2) s =
      ((runWithCallback r2 (runWithCallback r1 s).1).1,
        (runWithCallback r1 s).2 ++ (runWithCallback r2 (runWithCallback r1 s).1).2) := by
  induction r1 generalizing s with
  | nil => simp [runWithCallback]
  | cons q rest ih =>
    by_cases h : ∃ t, step s = .next t
    · obtain ⟨t, h⟩ := h
      simp [runWithCallback_next h, ih]
    · have hn : ∀ t, step s ≠ .next t := fun t ht => h ⟨t, ht⟩
      simp [runWithCallback_stop hn]

/-! ### The bus history -/

/-- A history cut in two is played one part after the other. -/
theorem replay_append (l1 l2 : List BusEvent) (m : Memory) :
    replay (l1 ++ l2) m = (replay l1 m).bind (replay l2) := by
  induction l1 generalizing m with
  | nil => rfl
  | cons e rest ih =>
    cases e with
    | read addr data =>
      by_cases h : memRead m addr.toNat = data <;> simp [replay, h, ih]
    | write addr data => simp [replay, ih]

/-- A read of the state's own memory plays without effect. -/
@[simp] theorem replay_readEvent (addr : Word) (rest : List BusEvent) :
    replay (s.readEvent addr :: rest) s.mem = replay rest s.mem := by
  simp [replay, State.readEvent, State.read]

/-- The fetch of an instruction's bytes plays without effect. -/
@[simp] theorem replay_fetchEvents (n : Nat) (addr : Word) : replay (s.fetchEvents n addr) s.mem = some s.mem := by
  induction n generalizing addr with
  | zero => rfl
  | succ n ih => simp [State.fetchEvents, ih]

end Sys2Proof.Machine
end

