-- ==== Sys2Proof/Laws/Effects.lean ====
section
/-! SUPPORT. What each shared operation of the instruction families does, once, in the words of Sys2Proof/Safety.lean:
the values it writes and its frame. The prover of an instruction cites these and unfolds no operation. -/

namespace Sys2Proof.Machine

variable (s : State)

/-! ### Small facts -/

theorem pcPast_advance (n : Nat) {t : State} (h : t.pc = s.pc + BitVec.ofNat 16 n) : PcPast n s t := by
  simp [PcPast, h, BitVec.toNat_add]

theorem byte_eq_zero (v : Byte) : (v == 0) = decide (v.toNat = 0) := by
  simp [beq_eq_decide, ← BitVec.toNat_inj]

theorem byte_msb (v : Byte) : v.msb = decide (128 ≤ v.toNat) := by
  simp [BitVec.msb_eq_decide]

theorem bit7 (v : Byte) : v.getLsbD 7 = decide (128 ≤ v.toNat) := by
  rw [← byte_msb, BitVec.msb_eq_getLsbD_last]

/-- Z and N after `SetNZ` (R30). -/
theorem znFrom_of {v : Byte} {t : State} (hz : t.flag .z = (v == 0)) (hn : t.flag .n = v.msb) : ZNFrom v t :=
  ⟨hz.trans (byte_eq_zero v), hn.trans (byte_msb v)⟩

theorem onlyWrites_of {regs : List Reg} {flags : List Flag} {s t : State}
    (hr : RegsKeptBut regs s t) (hsp : t.sp = s.sp) (hf : FlagsKeptBut flags s t)
    (hm : t.mem = s.mem) (hrun : RunKept s t) : OnlyWrites regs flags s t :=
  ⟨hr, hsp, hf, fun _ _ => by simp [State.read, hm], hrun⟩

/-- The operand forms read X, Y and memory, which the beginning of a step leaves alone (R110). -/
@[simp] theorem memAddr_startStep (f : MemForm) : memAddr f s.startStep = memAddr f s := by cases f <;> rfl
@[simp] theorem memByte_startStep (f : MemForm) : memByte f s.startStep = memByte f s := by simp [memByte]
@[simp] theorem sourceByte_startStep (src : Source) : sourceByte src s.startStep = sourceByte src s := by
  cases src <;> simp [sourceByte]
@[simp] theorem placeByte_startStep (pl : Place) : placeByte pl s.startStep = placeByte pl s := by
  cases pl <;> simp [placeByte]

/-! ### Loads, stores, transfers -/

theorem loadReg_effect (r : Reg) (src : Source) :
    (loadReg r src s).reg r = sourceByte src s ∧ ZNFrom (sourceByte src s) (loadReg r src s)
      ∧ OnlyWrites [r] [.z, .n] s (loadReg r src s) ∧ PcPast (sourceLength src) s (loadReg r src s) := by
  refine ⟨by simp [loadReg], znFrom_of (by simp [loadReg]) (by simp [loadReg]), ?_,
    pcPast_advance s _ (by simp [loadReg])⟩
  refine onlyWrites_of (fun r' hr' => ?_) (by simp [loadReg]) (fun f hf => ?_) (by simp [loadReg])
    ⟨by simp [loadReg], by simp [loadReg], by simp [loadReg]⟩
  · simp at hr'; simp [loadReg, hr']
  · simp at hf; simp [loadReg, hf, State.flag]

theorem storeReg_effect (r : Reg) (f : MemForm) {s : State} (h : Memory.wf s.mem = true) :
    (storeReg r f s).read (memAddr f s) = s.reg r ∧ MemKeptBut [memAddr f s] s (storeReg r f s)
      ∧ RegsKeptBut [] s (storeReg r f s) ∧ (storeReg r f s).sp = s.sp ∧ FlagsKeptBut [] s (storeReg r f s)
      ∧ RunKept s (storeReg r f s) ∧ PcPast (memLength f) s (storeReg r f s) := by
  refine ⟨by simp [storeReg, State.read_write h], fun a ha => ?_, fun r' _ => by simp [storeReg],
    by simp [storeReg], fun f _ => by simp [storeReg],
    ⟨by simp [storeReg], by simp [storeReg], by simp [storeReg]⟩, pcPast_advance s _ (by simp [storeReg])⟩
  simp at ha; simp [storeReg, State.read_write h, ha]

theorem transferReg_effect (r : Reg) (v : Byte) :
    (transferReg r v s).reg r = v ∧ ZNFrom v (transferReg r v s)
      ∧ OnlyWrites [r] [.z, .n] s (transferReg r v s) ∧ PcPast 1 s (transferReg r v s) := by
  refine ⟨by simp [transferReg], znFrom_of (by simp [transferReg]) (by simp [transferReg]), ?_,
    pcPast_advance s _ (by simp [transferReg])⟩
  refine onlyWrites_of (fun r' hr' => ?_) (by simp [transferReg]) (fun f hf => ?_) (by simp [transferReg])
    ⟨by simp [transferReg], by simp [transferReg], by simp [transferReg]⟩
  · simp at hr'; simp [transferReg, hr']
  · simp at hf; simp [transferReg, hf, State.flag]

/-! ### Arithmetic, logic, compare -/

theorem addToA_effect (m : Byte) (n : Nat) :
    (addToA m n s).a = (add8 s.a m (s.flag .c)).result
      ∧ (addToA m n s).flag .c = (add8 s.a m (s.flag .c)).carry
      ∧ (addToA m n s).flag .v = (add8 s.a m (s.flag .c)).overflow
      ∧ ZNFrom (addToA m n s).a (addToA m n s)
      ∧ OnlyWrites [.a] [.c, .v, .z, .n] s (addToA m n s) ∧ PcPast n s (addToA m n s) := by
  refine ⟨by simp [addToA], by simp [addToA], by simp [addToA],
    znFrom_of (by simp [addToA]) (by simp [addToA]), ?_, pcPast_advance s _ (by simp [addToA])⟩
  refine onlyWrites_of (fun r' hr' => ?_) (by simp [addToA]) (fun f hf => ?_) (by simp [addToA])
    ⟨by simp [addToA], by simp [addToA], by simp [addToA]⟩
  · simp at hr'; simp [addToA, hr']
  · simp at hf; simp [addToA, hf, State.flag]

theorem logicToA_effect (op : Byte → Byte → Byte) (src : Source) :
    (logicToA op src s).a = op s.a (sourceByte src s) ∧ ZNFrom (logicToA op src s).a (logicToA op src s)
      ∧ OnlyWrites [.a] [.z, .n] s (logicToA op src s) ∧ PcPast (sourceLength src) s (logicToA op src s) := by
  refine ⟨by simp [logicToA], znFrom_of (by simp [logicToA]) (by simp [logicToA]), ?_,
    pcPast_advance s _ (by simp [logicToA])⟩
  refine onlyWrites_of (fun r' hr' => ?_) (by simp [logicToA]) (fun f hf => ?_) (by simp [logicToA])
    ⟨by simp [logicToA], by simp [logicToA], by simp [logicToA]⟩
  · simp at hr'; simp [logicToA, hr']
  · simp at hf; simp [logicToA, hf, State.flag]

theorem bitTest_effect (f : MemForm) :
    (bitTest f s).flag .z = (s.a &&& memByte f s == 0)
      ∧ (bitTest f s).flag .n = (memByte f s).msb ∧ (bitTest f s).flag .v = (memByte f s).getLsbD 6
      ∧ OnlyWrites [] [.z, .n, .v] s (bitTest f s) ∧ PcPast (memLength f) s (bitTest f s) := by
  refine ⟨by simp [bitTest], by simp [bitTest], by simp [bitTest], ?_, pcPast_advance s _ (by simp [bitTest])⟩
  refine onlyWrites_of (fun r' _ => by simp [bitTest]) (by simp [bitTest]) (fun f hf => ?_) (by simp [bitTest])
    ⟨by simp [bitTest], by simp [bitTest], by simp [bitTest]⟩
  simp at hf; simp [bitTest, hf, State.flag]

theorem compareReg_effect (r : Reg) (src : Source) :
    (compareReg r src s).flag .c = decide ((sourceByte src s).toNat ≤ (s.reg r).toNat)
      ∧ (compareReg r src s).flag .z = (s.reg r == sourceByte src s)
      ∧ (compareReg r src s).flag .n = (s.reg r - sourceByte src s).msb
      ∧ OnlyWrites [] [.c, .z, .n] s (compareReg r src s) ∧ PcPast (sourceLength src) s (compareReg r src s) := by
  refine ⟨by simp [compareReg], by simp [compareReg], by simp [compareReg], ?_,
    pcPast_advance s _ (by simp [compareReg])⟩
  refine onlyWrites_of (fun r' _ => by simp [compareReg]) (by simp [compareReg]) (fun f hf => ?_)
    (by simp [compareReg]) ⟨by simp [compareReg], by simp [compareReg], by simp [compareReg]⟩
  simp at hf; simp [compareReg, hf, State.flag]

theorem addToMem_effect (d : Byte) (f : MemForm) {s : State} (h : Memory.wf s.mem = true) :
    (addToMem d f s).read (memAddr f s) = memByte f s + d
      ∧ ZNFrom (memByte f s + d) (addToMem d f s) ∧ MemKeptBut [memAddr f s] s (addToMem d f s)
      ∧ RegsKeptBut [] s (addToMem d f s) ∧ (addToMem d f s).sp = s.sp
      ∧ FlagsKeptBut [.z, .n] s (addToMem d f s) ∧ RunKept s (addToMem d f s)
      ∧ PcPast (memLength f) s (addToMem d f s) := by
  refine ⟨by simp [addToMem, State.read_write h], znFrom_of (by simp [addToMem]) (by simp [addToMem]),
    fun a ha => ?_, fun r' _ => by simp [addToMem], by simp [addToMem], fun f hf => ?_,
    ⟨by simp [addToMem], by simp [addToMem], by simp [addToMem]⟩, pcPast_advance s _ (by simp [addToMem])⟩
  · simp at ha; simp [addToMem, State.read_write h, ha]
  · simp at hf; simp [addToMem, hf, State.flag]

theorem addToReg_effect (d : Byte) (r : Reg) :
    (addToReg d r s).reg r = s.reg r + d ∧ ZNFrom (s.reg r + d) (addToReg d r s)
      ∧ OnlyWrites [r] [.z, .n] s (addToReg d r s) ∧ PcPast 1 s (addToReg d r s) := by
  refine ⟨by simp [addToReg], znFrom_of (by simp [addToReg]) (by simp [addToReg]), ?_,
    pcPast_advance s _ (by simp [addToReg])⟩
  refine onlyWrites_of (fun r' hr' => ?_) (by simp [addToReg]) (fun f hf => ?_) (by simp [addToReg])
    ⟨by simp [addToReg], by simp [addToReg], by simp [addToReg]⟩
  · simp at hr'; simp [addToReg, hr']
  · simp at hf; simp [addToReg, hf, State.flag]

/-! ### Shifts -/

theorem shiftAcc_effect (op : Byte → Bool → Shifted) :
    (shiftPlace op .acc s).a = (op s.a (s.flag .c)).result
      ∧ (shiftPlace op .acc s).flag .c = (op s.a (s.flag .c)).out
      ∧ ZNFrom (shiftPlace op .acc s).a (shiftPlace op .acc s)
      ∧ OnlyWrites [.a] [.c, .z, .n] s (shiftPlace op .acc s) ∧ PcPast 1 s (shiftPlace op .acc s) := by
  refine ⟨by simp [shiftPlace, placeWrite, placeByte], by simp [shiftPlace, placeWrite, placeByte],
    znFrom_of (by simp [shiftPlace, placeWrite, placeByte]) (by simp [shiftPlace, placeWrite, placeByte]), ?_,
    pcPast_advance s _ (by simp [shiftPlace, placeWrite, placeLength])⟩
  refine onlyWrites_of (fun r' hr' => ?_) (by simp [shiftPlace, placeWrite]) (fun f hf => ?_)
    (by simp [shiftPlace, placeWrite])
    ⟨by simp [shiftPlace, placeWrite], by simp [shiftPlace, placeWrite], by simp [shiftPlace, placeWrite]⟩
  · simp at hr'; simp [shiftPlace, placeWrite, hr']
  · simp at hf; simp [shiftPlace, placeWrite, hf, State.flag]

theorem shiftMem_effect (op : Byte → Bool → Shifted) (f : MemForm) {s : State} (h : Memory.wf s.mem = true) :
    (shiftPlace op (.mem f) s).read (memAddr f s) = (op (memByte f s) (s.flag .c)).result
      ∧ (shiftPlace op (.mem f) s).flag .c = (op (memByte f s) (s.flag .c)).out
      ∧ ZNFrom (op (memByte f s) (s.flag .c)).result (shiftPlace op (.mem f) s)
      ∧ MemKeptBut [memAddr f s] s (shiftPlace op (.mem f) s)
      ∧ RegsKeptBut [] s (shiftPlace op (.mem f) s) ∧ (shiftPlace op (.mem f) s).sp = s.sp
      ∧ FlagsKeptBut [.c, .z, .n] s (shiftPlace op (.mem f) s) ∧ RunKept s (shiftPlace op (.mem f) s)
      ∧ PcPast (memLength f) s (shiftPlace op (.mem f) s) := by
  refine ⟨by simp [shiftPlace, placeWrite, placeByte, State.read_write h],
    by simp [shiftPlace, placeWrite, placeByte],
    znFrom_of (by simp [shiftPlace, placeWrite, placeByte]) (by simp [shiftPlace, placeWrite, placeByte]),
    fun a ha => ?_, fun r' _ => by simp [shiftPlace, placeWrite], by simp [shiftPlace, placeWrite],
    fun f hf => ?_,
    ⟨by simp [shiftPlace, placeWrite], by simp [shiftPlace, placeWrite], by simp [shiftPlace, placeWrite]⟩,
    pcPast_advance s _ (by simp [shiftPlace, placeWrite, placeLength])⟩
  · simp at ha; simp [shiftPlace, placeWrite, State.read_write h, ha]
  · simp at hf; simp [shiftPlace, placeWrite, hf, State.flag]

/-! ### Branches and flags -/

theorem branchOn_effect (f : Flag) (required : Bool) (b : Byte) :
    ((branchOn f required b s).pc.toNat : Int) =
        (if s.flag f = required then ((s.pc.toNat : Int) + 2 + signed b) % 65536
          else ((s.pc.toNat : Int) + 2) % 65536)
      ∧ OnlyWrites [] [] s (branchOn f required b s) := by
  constructor
  · by_cases h : s.flag f = required
    · have := sext16_toInt b
      simp [branchOn, h, branchTarget, BitVec.toNat_add]
      omega
    · simp [branchOn, h, BitVec.toNat_add]
  · refine onlyWrites_of (fun r' _ => ?_) ?_ (fun f' _ => ?_) ?_ ⟨?_, ?_, ?_⟩ <;>
      (unfold branchOn; split <;> simp)

theorem writeFlag_effect (f : Flag) (v : Bool) :
    (writeFlag f v s).flag f = v ∧ OnlyWrites [] [f] s (writeFlag f v s) ∧ PcPast 1 s (writeFlag f v s) := by
  refine ⟨by simp [writeFlag], ?_, pcPast_advance s _ (by simp [writeFlag])⟩
  refine onlyWrites_of (fun r' _ => by simp [writeFlag]) (by simp [writeFlag]) (fun f' hf => ?_)
    (by simp [writeFlag]) ⟨by simp [writeFlag], by simp [writeFlag], by simp [writeFlag]⟩
  simp at hf; simp [writeFlag, hf, State.flag]

end Sys2Proof.Machine
end

