-- ==== Sys2Proof/Laws/PerInstr.lean ====
section
/-! SUPPORT. Per-instruction facts about the syntax: each instruction is well formed, its encoding has its declared
length, and its descriptor is well formed. -/

namespace Sys2Proof.Laws.Encoding

/-- What the family says of an instruction. -/
def Statement (i : Instr) : Prop :=
  i.wellFormed = true
    ∧ (encode i).length = i.length
    ∧ i.descriptor.wellFormed = true

theorem ldaImm (b : Byte) : Statement (.ldaImm b) := ⟨rfl, rfl, rfl⟩
theorem ldaZp (b : Byte) : Statement (.ldaZp b) := ⟨rfl, rfl, rfl⟩
theorem ldaZpx (b : Byte) : Statement (.ldaZpx b) := ⟨rfl, rfl, rfl⟩
theorem ldaAbs (w : Word) : Statement (.ldaAbs w) := ⟨rfl, rfl, rfl⟩
theorem ldaAbsx (w : Word) : Statement (.ldaAbsx w) := ⟨rfl, rfl, rfl⟩
theorem ldaAbsy (w : Word) : Statement (.ldaAbsy w) := ⟨rfl, rfl, rfl⟩
theorem ldaIndx (b : Byte) : Statement (.ldaIndx b) := ⟨rfl, rfl, rfl⟩
theorem ldaIndy (b : Byte) : Statement (.ldaIndy b) := ⟨rfl, rfl, rfl⟩
theorem ldxImm (b : Byte) : Statement (.ldxImm b) := ⟨rfl, rfl, rfl⟩
theorem ldxZp (b : Byte) : Statement (.ldxZp b) := ⟨rfl, rfl, rfl⟩
theorem ldxZpy (b : Byte) : Statement (.ldxZpy b) := ⟨rfl, rfl, rfl⟩
theorem ldxAbs (w : Word) : Statement (.ldxAbs w) := ⟨rfl, rfl, rfl⟩
theorem ldxAbsy (w : Word) : Statement (.ldxAbsy w) := ⟨rfl, rfl, rfl⟩
theorem ldyImm (b : Byte) : Statement (.ldyImm b) := ⟨rfl, rfl, rfl⟩
theorem ldyZp (b : Byte) : Statement (.ldyZp b) := ⟨rfl, rfl, rfl⟩
theorem ldyZpx (b : Byte) : Statement (.ldyZpx b) := ⟨rfl, rfl, rfl⟩
theorem ldyAbs (w : Word) : Statement (.ldyAbs w) := ⟨rfl, rfl, rfl⟩
theorem ldyAbsx (w : Word) : Statement (.ldyAbsx w) := ⟨rfl, rfl, rfl⟩
theorem staZp (b : Byte) : Statement (.staZp b) := ⟨rfl, rfl, rfl⟩
theorem staZpx (b : Byte) : Statement (.staZpx b) := ⟨rfl, rfl, rfl⟩
theorem staAbs (w : Word) : Statement (.staAbs w) := ⟨rfl, rfl, rfl⟩
theorem staAbsx (w : Word) : Statement (.staAbsx w) := ⟨rfl, rfl, rfl⟩
theorem staAbsy (w : Word) : Statement (.staAbsy w) := ⟨rfl, rfl, rfl⟩
theorem staIndx (b : Byte) : Statement (.staIndx b) := ⟨rfl, rfl, rfl⟩
theorem staIndy (b : Byte) : Statement (.staIndy b) := ⟨rfl, rfl, rfl⟩
theorem stxZp (b : Byte) : Statement (.stxZp b) := ⟨rfl, rfl, rfl⟩
theorem stxZpy (b : Byte) : Statement (.stxZpy b) := ⟨rfl, rfl, rfl⟩
theorem stxAbs (w : Word) : Statement (.stxAbs w) := ⟨rfl, rfl, rfl⟩
theorem styZp (b : Byte) : Statement (.styZp b) := ⟨rfl, rfl, rfl⟩
theorem styZpx (b : Byte) : Statement (.styZpx b) := ⟨rfl, rfl, rfl⟩
theorem styAbs (w : Word) : Statement (.styAbs w) := ⟨rfl, rfl, rfl⟩
theorem tax : Statement .tax := ⟨rfl, rfl, rfl⟩
theorem tay : Statement .tay := ⟨rfl, rfl, rfl⟩
theorem txa : Statement .txa := ⟨rfl, rfl, rfl⟩
theorem tya : Statement .tya := ⟨rfl, rfl, rfl⟩
theorem tsx : Statement .tsx := ⟨rfl, rfl, rfl⟩
theorem txs : Statement .txs := ⟨rfl, rfl, rfl⟩
theorem adcImm (b : Byte) : Statement (.adcImm b) := ⟨rfl, rfl, rfl⟩
theorem adcZp (b : Byte) : Statement (.adcZp b) := ⟨rfl, rfl, rfl⟩
theorem adcZpx (b : Byte) : Statement (.adcZpx b) := ⟨rfl, rfl, rfl⟩
theorem adcAbs (w : Word) : Statement (.adcAbs w) := ⟨rfl, rfl, rfl⟩
theorem adcAbsx (w : Word) : Statement (.adcAbsx w) := ⟨rfl, rfl, rfl⟩
theorem adcAbsy (w : Word) : Statement (.adcAbsy w) := ⟨rfl, rfl, rfl⟩
theorem adcIndx (b : Byte) : Statement (.adcIndx b) := ⟨rfl, rfl, rfl⟩
theorem adcIndy (b : Byte) : Statement (.adcIndy b) := ⟨rfl, rfl, rfl⟩
theorem sbcImm (b : Byte) : Statement (.sbcImm b) := ⟨rfl, rfl, rfl⟩
theorem sbcZp (b : Byte) : Statement (.sbcZp b) := ⟨rfl, rfl, rfl⟩
theorem sbcZpx (b : Byte) : Statement (.sbcZpx b) := ⟨rfl, rfl, rfl⟩
theorem sbcAbs (w : Word) : Statement (.sbcAbs w) := ⟨rfl, rfl, rfl⟩
theorem sbcAbsx (w : Word) : Statement (.sbcAbsx w) := ⟨rfl, rfl, rfl⟩
theorem sbcAbsy (w : Word) : Statement (.sbcAbsy w) := ⟨rfl, rfl, rfl⟩
theorem sbcIndx (b : Byte) : Statement (.sbcIndx b) := ⟨rfl, rfl, rfl⟩
theorem sbcIndy (b : Byte) : Statement (.sbcIndy b) := ⟨rfl, rfl, rfl⟩
theorem andImm (b : Byte) : Statement (.andImm b) := ⟨rfl, rfl, rfl⟩
theorem andZp (b : Byte) : Statement (.andZp b) := ⟨rfl, rfl, rfl⟩
theorem andZpx (b : Byte) : Statement (.andZpx b) := ⟨rfl, rfl, rfl⟩
theorem andAbs (w : Word) : Statement (.andAbs w) := ⟨rfl, rfl, rfl⟩
theorem andAbsx (w : Word) : Statement (.andAbsx w) := ⟨rfl, rfl, rfl⟩
theorem andAbsy (w : Word) : Statement (.andAbsy w) := ⟨rfl, rfl, rfl⟩
theorem andIndx (b : Byte) : Statement (.andIndx b) := ⟨rfl, rfl, rfl⟩
theorem andIndy (b : Byte) : Statement (.andIndy b) := ⟨rfl, rfl, rfl⟩
theorem oraImm (b : Byte) : Statement (.oraImm b) := ⟨rfl, rfl, rfl⟩
theorem oraZp (b : Byte) : Statement (.oraZp b) := ⟨rfl, rfl, rfl⟩
theorem oraZpx (b : Byte) : Statement (.oraZpx b) := ⟨rfl, rfl, rfl⟩
theorem oraAbs (w : Word) : Statement (.oraAbs w) := ⟨rfl, rfl, rfl⟩
theorem oraAbsx (w : Word) : Statement (.oraAbsx w) := ⟨rfl, rfl, rfl⟩
theorem oraAbsy (w : Word) : Statement (.oraAbsy w) := ⟨rfl, rfl, rfl⟩
theorem oraIndx (b : Byte) : Statement (.oraIndx b) := ⟨rfl, rfl, rfl⟩
theorem oraIndy (b : Byte) : Statement (.oraIndy b) := ⟨rfl, rfl, rfl⟩
theorem eorImm (b : Byte) : Statement (.eorImm b) := ⟨rfl, rfl, rfl⟩
theorem eorZp (b : Byte) : Statement (.eorZp b) := ⟨rfl, rfl, rfl⟩
theorem eorZpx (b : Byte) : Statement (.eorZpx b) := ⟨rfl, rfl, rfl⟩
theorem eorAbs (w : Word) : Statement (.eorAbs w) := ⟨rfl, rfl, rfl⟩
theorem eorAbsx (w : Word) : Statement (.eorAbsx w) := ⟨rfl, rfl, rfl⟩
theorem eorAbsy (w : Word) : Statement (.eorAbsy w) := ⟨rfl, rfl, rfl⟩
theorem eorIndx (b : Byte) : Statement (.eorIndx b) := ⟨rfl, rfl, rfl⟩
theorem eorIndy (b : Byte) : Statement (.eorIndy b) := ⟨rfl, rfl, rfl⟩
theorem bitZp (b : Byte) : Statement (.bitZp b) := ⟨rfl, rfl, rfl⟩
theorem bitAbs (w : Word) : Statement (.bitAbs w) := ⟨rfl, rfl, rfl⟩
theorem cmpImm (b : Byte) : Statement (.cmpImm b) := ⟨rfl, rfl, rfl⟩
theorem cmpZp (b : Byte) : Statement (.cmpZp b) := ⟨rfl, rfl, rfl⟩
theorem cmpZpx (b : Byte) : Statement (.cmpZpx b) := ⟨rfl, rfl, rfl⟩
theorem cmpAbs (w : Word) : Statement (.cmpAbs w) := ⟨rfl, rfl, rfl⟩
theorem cmpAbsx (w : Word) : Statement (.cmpAbsx w) := ⟨rfl, rfl, rfl⟩
theorem cmpAbsy (w : Word) : Statement (.cmpAbsy w) := ⟨rfl, rfl, rfl⟩
theorem cmpIndx (b : Byte) : Statement (.cmpIndx b) := ⟨rfl, rfl, rfl⟩
theorem cmpIndy (b : Byte) : Statement (.cmpIndy b) := ⟨rfl, rfl, rfl⟩
theorem cpxImm (b : Byte) : Statement (.cpxImm b) := ⟨rfl, rfl, rfl⟩
theorem cpxZp (b : Byte) : Statement (.cpxZp b) := ⟨rfl, rfl, rfl⟩
theorem cpxAbs (w : Word) : Statement (.cpxAbs w) := ⟨rfl, rfl, rfl⟩
theorem cpyImm (b : Byte) : Statement (.cpyImm b) := ⟨rfl, rfl, rfl⟩
theorem cpyZp (b : Byte) : Statement (.cpyZp b) := ⟨rfl, rfl, rfl⟩
theorem cpyAbs (w : Word) : Statement (.cpyAbs w) := ⟨rfl, rfl, rfl⟩
theorem incZp (b : Byte) : Statement (.incZp b) := ⟨rfl, rfl, rfl⟩
theorem incZpx (b : Byte) : Statement (.incZpx b) := ⟨rfl, rfl, rfl⟩
theorem incAbs (w : Word) : Statement (.incAbs w) := ⟨rfl, rfl, rfl⟩
theorem incAbsx (w : Word) : Statement (.incAbsx w) := ⟨rfl, rfl, rfl⟩
theorem decZp (b : Byte) : Statement (.decZp b) := ⟨rfl, rfl, rfl⟩
theorem decZpx (b : Byte) : Statement (.decZpx b) := ⟨rfl, rfl, rfl⟩
theorem decAbs (w : Word) : Statement (.decAbs w) := ⟨rfl, rfl, rfl⟩
theorem decAbsx (w : Word) : Statement (.decAbsx w) := ⟨rfl, rfl, rfl⟩
theorem inx : Statement .inx := ⟨rfl, rfl, rfl⟩
theorem iny : Statement .iny := ⟨rfl, rfl, rfl⟩
theorem dex : Statement .dex := ⟨rfl, rfl, rfl⟩
theorem dey : Statement .dey := ⟨rfl, rfl, rfl⟩
theorem aslAcc : Statement .aslAcc := ⟨rfl, rfl, rfl⟩
theorem aslZp (b : Byte) : Statement (.aslZp b) := ⟨rfl, rfl, rfl⟩
theorem aslZpx (b : Byte) : Statement (.aslZpx b) := ⟨rfl, rfl, rfl⟩
theorem aslAbs (w : Word) : Statement (.aslAbs w) := ⟨rfl, rfl, rfl⟩
theorem aslAbsx (w : Word) : Statement (.aslAbsx w) := ⟨rfl, rfl, rfl⟩
theorem lsrAcc : Statement .lsrAcc := ⟨rfl, rfl, rfl⟩
theorem lsrZp (b : Byte) : Statement (.lsrZp b) := ⟨rfl, rfl, rfl⟩
theorem lsrZpx (b : Byte) : Statement (.lsrZpx b) := ⟨rfl, rfl, rfl⟩
theorem lsrAbs (w : Word) : Statement (.lsrAbs w) := ⟨rfl, rfl, rfl⟩
theorem lsrAbsx (w : Word) : Statement (.lsrAbsx w) := ⟨rfl, rfl, rfl⟩
theorem rolAcc : Statement .rolAcc := ⟨rfl, rfl, rfl⟩
theorem rolZp (b : Byte) : Statement (.rolZp b) := ⟨rfl, rfl, rfl⟩
theorem rolZpx (b : Byte) : Statement (.rolZpx b) := ⟨rfl, rfl, rfl⟩
theorem rolAbs (w : Word) : Statement (.rolAbs w) := ⟨rfl, rfl, rfl⟩
theorem rolAbsx (w : Word) : Statement (.rolAbsx w) := ⟨rfl, rfl, rfl⟩
theorem rorAcc : Statement .rorAcc := ⟨rfl, rfl, rfl⟩
theorem rorZp (b : Byte) : Statement (.rorZp b) := ⟨rfl, rfl, rfl⟩
theorem rorZpx (b : Byte) : Statement (.rorZpx b) := ⟨rfl, rfl, rfl⟩
theorem rorAbs (w : Word) : Statement (.rorAbs w) := ⟨rfl, rfl, rfl⟩
theorem rorAbsx (w : Word) : Statement (.rorAbsx w) := ⟨rfl, rfl, rfl⟩
theorem bcc (b : Byte) : Statement (.bcc b) := ⟨rfl, rfl, rfl⟩
theorem bcs (b : Byte) : Statement (.bcs b) := ⟨rfl, rfl, rfl⟩
theorem beq (b : Byte) : Statement (.beq b) := ⟨rfl, rfl, rfl⟩
theorem bmi (b : Byte) : Statement (.bmi b) := ⟨rfl, rfl, rfl⟩
theorem bne (b : Byte) : Statement (.bne b) := ⟨rfl, rfl, rfl⟩
theorem bpl (b : Byte) : Statement (.bpl b) := ⟨rfl, rfl, rfl⟩
theorem bvc (b : Byte) : Statement (.bvc b) := ⟨rfl, rfl, rfl⟩
theorem bvs (b : Byte) : Statement (.bvs b) := ⟨rfl, rfl, rfl⟩
theorem jmpAbs (w : Word) : Statement (.jmpAbs w) := ⟨rfl, rfl, rfl⟩
theorem jmpInd (w : Word) : Statement (.jmpInd w) := ⟨rfl, rfl, rfl⟩
theorem jsr (w : Word) : Statement (.jsr w) := ⟨rfl, rfl, rfl⟩
theorem rts : Statement .rts := ⟨rfl, rfl, rfl⟩
theorem pha : Statement .pha := ⟨rfl, rfl, rfl⟩
theorem pla : Statement .pla := ⟨rfl, rfl, rfl⟩
theorem php : Statement .php := ⟨rfl, rfl, rfl⟩
theorem plp : Statement .plp := ⟨rfl, rfl, rfl⟩
theorem clc : Statement .clc := ⟨rfl, rfl, rfl⟩
theorem sec : Statement .sec := ⟨rfl, rfl, rfl⟩
theorem cli : Statement .cli := ⟨rfl, rfl, rfl⟩
theorem sei : Statement .sei := ⟨rfl, rfl, rfl⟩
theorem cld : Statement .cld := ⟨rfl, rfl, rfl⟩
theorem sed : Statement .sed := ⟨rfl, rfl, rfl⟩
theorem clv : Statement .clv := ⟨rfl, rfl, rfl⟩
theorem nop : Statement .nop := ⟨rfl, rfl, rfl⟩
theorem brk : Statement .brk := ⟨rfl, rfl, rfl⟩
theorem rti : Statement .rti := ⟨rfl, rfl, rfl⟩

end Sys2Proof.Laws.Encoding
end

