-- ==== Sys2Proof/Laws/Shapes.lean ====
section
/-! SUPPORT. The kinds of instruction, said once: what `exec` can answer, with the operation each mnemonic runs.
A statement over all instructions is proved by cases on this and not on the 151 constructors. -/

namespace Sys2Proof.Machine

/-- The operand an instruction with a source has. -/
def sourceOperand : Source → Operand
  | .imm b => .imm b
  | .mem f => .mem f

/-- The operand a shift or rotate has. -/
def placeOperand : Place → Operand
  | .acc => .acc
  | .mem f => .mem f

/-- The next state of each kind of instruction. -/
inductive Shape (s : State) : Instr → State → Prop
  | load {i : Instr} {r : Reg} (src : Source) (hm : (i.mnemonic, r) ∈ [(Mnemonic.lda, Reg.a), (.ldx, .x), (.ldy, .y)])
      (ho : i.operand = sourceOperand src) : Shape s i (loadReg r src s)
  | store {i : Instr} {r : Reg} (f : MemForm) (hm : (i.mnemonic, r) ∈ [(Mnemonic.sta, Reg.a), (.stx, .x), (.sty, .y)])
      (ho : i.operand = .mem f) : Shape s i (storeReg r f s)
  | transfer {i : Instr} {r : Reg} {v : Byte}
      (hi : (i, r, v) ∈ [(Instr.tax, Reg.x, s.a), (.tay, .y, s.a), (.txa, .a, s.x), (.tya, .a, s.y), (.tsx, .x, s.sp)]) :
      Shape s i (transferReg r v s)
  | txs : Shape s .txs ((s.setSP s.x).advance 1)
  | add {i : Instr} {m : Byte} (src : Source)
      (hm : (i.mnemonic, m) ∈ [(Mnemonic.adc, sourceByte src s), (.sbc, ~~~ sourceByte src s)])
      (ho : i.operand = sourceOperand src) : Shape s i (addToA m (sourceLength src) s)
  | logic {i : Instr} {op : Byte → Byte → Byte} (src : Source)
      (hm : (i.mnemonic, op) ∈ ([(.and, (· &&& ·)), (.ora, (· ||| ·)), (.eor, (· ^^^ ·))] :
        List (Mnemonic × (Byte → Byte → Byte))))
      (ho : i.operand = sourceOperand src) : Shape s i (logicToA op src s)
  | bit {i : Instr} (f : MemForm) (hm : i.mnemonic = .bit) (ho : i.operand = .mem f) : Shape s i (bitTest f s)
  | compare {i : Instr} {r : Reg} (src : Source) (hm : (i.mnemonic, r) ∈ [(Mnemonic.cmp, Reg.a), (.cpx, .x), (.cpy, .y)])
      (ho : i.operand = sourceOperand src) : Shape s i (compareReg r src s)
  | stepMem {i : Instr} {d : Byte} (f : MemForm) (hm : (i.mnemonic, d) ∈ [(Mnemonic.inc, (1 : Byte)), (.dec, -1)])
      (ho : i.operand = .mem f) : Shape s i (addToMem d f s)
  | stepReg {i : Instr} {d : Byte} {r : Reg}
      (hi : (i, d, r) ∈ [(Instr.inx, (1 : Byte), Reg.x), (.iny, 1, .y), (.dex, -1, .x), (.dey, -1, .y)]) :
      Shape s i (addToReg d r s)
  | shift {i : Instr} {op : Byte → Bool → Shifted} (pl : Place)
      (hm : (i.mnemonic, op) ∈ [(Mnemonic.asl, aslByte), (.lsr, lsrByte), (.rol, rolByte), (.ror, rorByte)])
      (ho : i.operand = placeOperand pl) : Shape s i (shiftPlace op pl s)
  | branch {i : Instr} {f : Flag} {required : Bool} (b : Byte)
      (hm : (i.mnemonic, f, required) ∈ [(Mnemonic.bcc, Flag.c, false), (.bcs, .c, true), (.beq, .z, true),
        (.bmi, .n, true), (.bne, .z, false), (.bpl, .n, false), (.bvc, .v, false), (.bvs, .v, true)])
      (ho : i.operand = .rel b) : Shape s i (branchOn f required b s)
  | jump {i : Instr} {w : Word} (hi : ∃ w', (i, w) ∈ [(Instr.jmpAbs w', w'), (.jmpInd w', s.indPointer w')]) :
      Shape s i (s.setPC w)
  | jsr (w : Word) : Shape s (.jsr w) ((s.pushWord (s.pc + 2)).setPC w)
  | rts : Shape s .rts (s.pullWord.2.setPC (s.pullWord.1 + 1))
  | push {i : Instr} {v : Byte} (hi : (i, v) ∈ [(Instr.pha, s.a), (.php, statusCopy s.p)]) :
      Shape s i ((s.push v).advance 1)
  | pla : Shape s .pla (transferReg .a s.pull.1 s.pull.2)
  | plp : Shape s .plp ((s.pull.2.setP (statusPulled s.pull.1)).advance 1)
  | flag {i : Instr} {f : Flag} {v : Bool}
      (hi : (i, f, v) ∈ [(Instr.clc, Flag.c, false), (.sec, .c, true), (.cli, .i, false), (.sei, .i, true),
        (.cld, .d, false), (.sed, .d, true), (.clv, .v, false)]) : Shape s i (writeFlag f v s)
  | nop : Shape s .nop (s.advance 1)
  | brk : Shape s .brk (s.trapEntry (s.pc + 2)).haltBreak
  | rti : Shape s .rti s.trapReturn

/-- What `exec` can answer: the next state of the instruction's kind, and nothing else. -/
theorem exec_shape (i : Instr) (s : State) : ∃ t, exec i s = .next t ∧ Shape s i t := by
  cases i with
  | ldaImm b => exact ⟨_, rfl, .load (.imm b) (by simp [Instr.mnemonic]) rfl⟩
  | ldaZp b => exact ⟨_, rfl, .load (.mem (.zp b)) (by simp [Instr.mnemonic]) rfl⟩
  | ldaZpx b => exact ⟨_, rfl, .load (.mem (.zpx b)) (by simp [Instr.mnemonic]) rfl⟩
  | ldaAbs w => exact ⟨_, rfl, .load (.mem (.abs w)) (by simp [Instr.mnemonic]) rfl⟩
  | ldaAbsx w => exact ⟨_, rfl, .load (.mem (.absx w)) (by simp [Instr.mnemonic]) rfl⟩
  | ldaAbsy w => exact ⟨_, rfl, .load (.mem (.absy w)) (by simp [Instr.mnemonic]) rfl⟩
  | ldaIndx b => exact ⟨_, rfl, .load (.mem (.indx b)) (by simp [Instr.mnemonic]) rfl⟩
  | ldaIndy b => exact ⟨_, rfl, .load (.mem (.indy b)) (by simp [Instr.mnemonic]) rfl⟩
  | ldxImm b => exact ⟨_, rfl, .load (.imm b) (by simp [Instr.mnemonic]) rfl⟩
  | ldxZp b => exact ⟨_, rfl, .load (.mem (.zp b)) (by simp [Instr.mnemonic]) rfl⟩
  | ldxZpy b => exact ⟨_, rfl, .load (.mem (.zpy b)) (by simp [Instr.mnemonic]) rfl⟩
  | ldxAbs w => exact ⟨_, rfl, .load (.mem (.abs w)) (by simp [Instr.mnemonic]) rfl⟩
  | ldxAbsy w => exact ⟨_, rfl, .load (.mem (.absy w)) (by simp [Instr.mnemonic]) rfl⟩
  | ldyImm b => exact ⟨_, rfl, .load (.imm b) (by simp [Instr.mnemonic]) rfl⟩
  | ldyZp b => exact ⟨_, rfl, .load (.mem (.zp b)) (by simp [Instr.mnemonic]) rfl⟩
  | ldyZpx b => exact ⟨_, rfl, .load (.mem (.zpx b)) (by simp [Instr.mnemonic]) rfl⟩
  | ldyAbs w => exact ⟨_, rfl, .load (.mem (.abs w)) (by simp [Instr.mnemonic]) rfl⟩
  | ldyAbsx w => exact ⟨_, rfl, .load (.mem (.absx w)) (by simp [Instr.mnemonic]) rfl⟩
  | staZp b => exact ⟨_, rfl, .store (.zp b) (by simp [Instr.mnemonic]) rfl⟩
  | staZpx b => exact ⟨_, rfl, .store (.zpx b) (by simp [Instr.mnemonic]) rfl⟩
  | staAbs w => exact ⟨_, rfl, .store (.abs w) (by simp [Instr.mnemonic]) rfl⟩
  | staAbsx w => exact ⟨_, rfl, .store (.absx w) (by simp [Instr.mnemonic]) rfl⟩
  | staAbsy w => exact ⟨_, rfl, .store (.absy w) (by simp [Instr.mnemonic]) rfl⟩
  | staIndx b => exact ⟨_, rfl, .store (.indx b) (by simp [Instr.mnemonic]) rfl⟩
  | staIndy b => exact ⟨_, rfl, .store (.indy b) (by simp [Instr.mnemonic]) rfl⟩
  | stxZp b => exact ⟨_, rfl, .store (.zp b) (by simp [Instr.mnemonic]) rfl⟩
  | stxZpy b => exact ⟨_, rfl, .store (.zpy b) (by simp [Instr.mnemonic]) rfl⟩
  | stxAbs w => exact ⟨_, rfl, .store (.abs w) (by simp [Instr.mnemonic]) rfl⟩
  | styZp b => exact ⟨_, rfl, .store (.zp b) (by simp [Instr.mnemonic]) rfl⟩
  | styZpx b => exact ⟨_, rfl, .store (.zpx b) (by simp [Instr.mnemonic]) rfl⟩
  | styAbs w => exact ⟨_, rfl, .store (.abs w) (by simp [Instr.mnemonic]) rfl⟩
  | tax => exact ⟨_, rfl, .transfer (by simp)⟩
  | tay => exact ⟨_, rfl, .transfer (by simp)⟩
  | txa => exact ⟨_, rfl, .transfer (by simp)⟩
  | tya => exact ⟨_, rfl, .transfer (by simp)⟩
  | tsx => exact ⟨_, rfl, .transfer (by simp)⟩
  | txs => exact ⟨_, rfl, .txs⟩
  | adcImm b => exact ⟨_, rfl, .add (.imm b) (by simp [Instr.mnemonic]) rfl⟩
  | adcZp b => exact ⟨_, rfl, .add (.mem (.zp b)) (by simp [Instr.mnemonic]) rfl⟩
  | adcZpx b => exact ⟨_, rfl, .add (.mem (.zpx b)) (by simp [Instr.mnemonic]) rfl⟩
  | adcAbs w => exact ⟨_, rfl, .add (.mem (.abs w)) (by simp [Instr.mnemonic]) rfl⟩
  | adcAbsx w => exact ⟨_, rfl, .add (.mem (.absx w)) (by simp [Instr.mnemonic]) rfl⟩
  | adcAbsy w => exact ⟨_, rfl, .add (.mem (.absy w)) (by simp [Instr.mnemonic]) rfl⟩
  | adcIndx b => exact ⟨_, rfl, .add (.mem (.indx b)) (by simp [Instr.mnemonic]) rfl⟩
  | adcIndy b => exact ⟨_, rfl, .add (.mem (.indy b)) (by simp [Instr.mnemonic]) rfl⟩
  | sbcImm b => exact ⟨_, rfl, .add (.imm b) (by simp [Instr.mnemonic]) rfl⟩
  | sbcZp b => exact ⟨_, rfl, .add (.mem (.zp b)) (by simp [Instr.mnemonic]) rfl⟩
  | sbcZpx b => exact ⟨_, rfl, .add (.mem (.zpx b)) (by simp [Instr.mnemonic]) rfl⟩
  | sbcAbs w => exact ⟨_, rfl, .add (.mem (.abs w)) (by simp [Instr.mnemonic]) rfl⟩
  | sbcAbsx w => exact ⟨_, rfl, .add (.mem (.absx w)) (by simp [Instr.mnemonic]) rfl⟩
  | sbcAbsy w => exact ⟨_, rfl, .add (.mem (.absy w)) (by simp [Instr.mnemonic]) rfl⟩
  | sbcIndx b => exact ⟨_, rfl, .add (.mem (.indx b)) (by simp [Instr.mnemonic]) rfl⟩
  | sbcIndy b => exact ⟨_, rfl, .add (.mem (.indy b)) (by simp [Instr.mnemonic]) rfl⟩
  | andImm b => exact ⟨_, rfl, .logic (.imm b) (by simp [Instr.mnemonic]) rfl⟩
  | andZp b => exact ⟨_, rfl, .logic (.mem (.zp b)) (by simp [Instr.mnemonic]) rfl⟩
  | andZpx b => exact ⟨_, rfl, .logic (.mem (.zpx b)) (by simp [Instr.mnemonic]) rfl⟩
  | andAbs w => exact ⟨_, rfl, .logic (.mem (.abs w)) (by simp [Instr.mnemonic]) rfl⟩
  | andAbsx w => exact ⟨_, rfl, .logic (.mem (.absx w)) (by simp [Instr.mnemonic]) rfl⟩
  | andAbsy w => exact ⟨_, rfl, .logic (.mem (.absy w)) (by simp [Instr.mnemonic]) rfl⟩
  | andIndx b => exact ⟨_, rfl, .logic (.mem (.indx b)) (by simp [Instr.mnemonic]) rfl⟩
  | andIndy b => exact ⟨_, rfl, .logic (.mem (.indy b)) (by simp [Instr.mnemonic]) rfl⟩
  | oraImm b => exact ⟨_, rfl, .logic (.imm b) (by simp [Instr.mnemonic]) rfl⟩
  | oraZp b => exact ⟨_, rfl, .logic (.mem (.zp b)) (by simp [Instr.mnemonic]) rfl⟩
  | oraZpx b => exact ⟨_, rfl, .logic (.mem (.zpx b)) (by simp [Instr.mnemonic]) rfl⟩
  | oraAbs w => exact ⟨_, rfl, .logic (.mem (.abs w)) (by simp [Instr.mnemonic]) rfl⟩
  | oraAbsx w => exact ⟨_, rfl, .logic (.mem (.absx w)) (by simp [Instr.mnemonic]) rfl⟩
  | oraAbsy w => exact ⟨_, rfl, .logic (.mem (.absy w)) (by simp [Instr.mnemonic]) rfl⟩
  | oraIndx b => exact ⟨_, rfl, .logic (.mem (.indx b)) (by simp [Instr.mnemonic]) rfl⟩
  | oraIndy b => exact ⟨_, rfl, .logic (.mem (.indy b)) (by simp [Instr.mnemonic]) rfl⟩
  | eorImm b => exact ⟨_, rfl, .logic (.imm b) (by simp [Instr.mnemonic]) rfl⟩
  | eorZp b => exact ⟨_, rfl, .logic (.mem (.zp b)) (by simp [Instr.mnemonic]) rfl⟩
  | eorZpx b => exact ⟨_, rfl, .logic (.mem (.zpx b)) (by simp [Instr.mnemonic]) rfl⟩
  | eorAbs w => exact ⟨_, rfl, .logic (.mem (.abs w)) (by simp [Instr.mnemonic]) rfl⟩
  | eorAbsx w => exact ⟨_, rfl, .logic (.mem (.absx w)) (by simp [Instr.mnemonic]) rfl⟩
  | eorAbsy w => exact ⟨_, rfl, .logic (.mem (.absy w)) (by simp [Instr.mnemonic]) rfl⟩
  | eorIndx b => exact ⟨_, rfl, .logic (.mem (.indx b)) (by simp [Instr.mnemonic]) rfl⟩
  | eorIndy b => exact ⟨_, rfl, .logic (.mem (.indy b)) (by simp [Instr.mnemonic]) rfl⟩
  | bitZp b => exact ⟨_, rfl, .bit (.zp b) rfl rfl⟩
  | bitAbs w => exact ⟨_, rfl, .bit (.abs w) rfl rfl⟩
  | cmpImm b => exact ⟨_, rfl, .compare (.imm b) (by simp [Instr.mnemonic]) rfl⟩
  | cmpZp b => exact ⟨_, rfl, .compare (.mem (.zp b)) (by simp [Instr.mnemonic]) rfl⟩
  | cmpZpx b => exact ⟨_, rfl, .compare (.mem (.zpx b)) (by simp [Instr.mnemonic]) rfl⟩
  | cmpAbs w => exact ⟨_, rfl, .compare (.mem (.abs w)) (by simp [Instr.mnemonic]) rfl⟩
  | cmpAbsx w => exact ⟨_, rfl, .compare (.mem (.absx w)) (by simp [Instr.mnemonic]) rfl⟩
  | cmpAbsy w => exact ⟨_, rfl, .compare (.mem (.absy w)) (by simp [Instr.mnemonic]) rfl⟩
  | cmpIndx b => exact ⟨_, rfl, .compare (.mem (.indx b)) (by simp [Instr.mnemonic]) rfl⟩
  | cmpIndy b => exact ⟨_, rfl, .compare (.mem (.indy b)) (by simp [Instr.mnemonic]) rfl⟩
  | cpxImm b => exact ⟨_, rfl, .compare (.imm b) (by simp [Instr.mnemonic]) rfl⟩
  | cpxZp b => exact ⟨_, rfl, .compare (.mem (.zp b)) (by simp [Instr.mnemonic]) rfl⟩
  | cpxAbs w => exact ⟨_, rfl, .compare (.mem (.abs w)) (by simp [Instr.mnemonic]) rfl⟩
  | cpyImm b => exact ⟨_, rfl, .compare (.imm b) (by simp [Instr.mnemonic]) rfl⟩
  | cpyZp b => exact ⟨_, rfl, .compare (.mem (.zp b)) (by simp [Instr.mnemonic]) rfl⟩
  | cpyAbs w => exact ⟨_, rfl, .compare (.mem (.abs w)) (by simp [Instr.mnemonic]) rfl⟩
  | incZp b => exact ⟨_, rfl, .stepMem (.zp b) (by simp [Instr.mnemonic]) rfl⟩
  | incZpx b => exact ⟨_, rfl, .stepMem (.zpx b) (by simp [Instr.mnemonic]) rfl⟩
  | incAbs w => exact ⟨_, rfl, .stepMem (.abs w) (by simp [Instr.mnemonic]) rfl⟩
  | incAbsx w => exact ⟨_, rfl, .stepMem (.absx w) (by simp [Instr.mnemonic]) rfl⟩
  | decZp b => exact ⟨_, rfl, .stepMem (.zp b) (by simp [Instr.mnemonic]) rfl⟩
  | decZpx b => exact ⟨_, rfl, .stepMem (.zpx b) (by simp [Instr.mnemonic]) rfl⟩
  | decAbs w => exact ⟨_, rfl, .stepMem (.abs w) (by simp [Instr.mnemonic]) rfl⟩
  | decAbsx w => exact ⟨_, rfl, .stepMem (.absx w) (by simp [Instr.mnemonic]) rfl⟩
  | inx => exact ⟨_, rfl, .stepReg (by simp)⟩
  | iny => exact ⟨_, rfl, .stepReg (by simp)⟩
  | dex => exact ⟨_, rfl, .stepReg (by simp)⟩
  | dey => exact ⟨_, rfl, .stepReg (by simp)⟩
  | aslAcc => exact ⟨_, rfl, .shift .acc (by simp [Instr.mnemonic]) rfl⟩
  | aslZp b => exact ⟨_, rfl, .shift (.mem (.zp b)) (by simp [Instr.mnemonic]) rfl⟩
  | aslZpx b => exact ⟨_, rfl, .shift (.mem (.zpx b)) (by simp [Instr.mnemonic]) rfl⟩
  | aslAbs w => exact ⟨_, rfl, .shift (.mem (.abs w)) (by simp [Instr.mnemonic]) rfl⟩
  | aslAbsx w => exact ⟨_, rfl, .shift (.mem (.absx w)) (by simp [Instr.mnemonic]) rfl⟩
  | lsrAcc => exact ⟨_, rfl, .shift .acc (by simp [Instr.mnemonic]) rfl⟩
  | lsrZp b => exact ⟨_, rfl, .shift (.mem (.zp b)) (by simp [Instr.mnemonic]) rfl⟩
  | lsrZpx b => exact ⟨_, rfl, .shift (.mem (.zpx b)) (by simp [Instr.mnemonic]) rfl⟩
  | lsrAbs w => exact ⟨_, rfl, .shift (.mem (.abs w)) (by simp [Instr.mnemonic]) rfl⟩
  | lsrAbsx w => exact ⟨_, rfl, .shift (.mem (.absx w)) (by simp [Instr.mnemonic]) rfl⟩
  | rolAcc => exact ⟨_, rfl, .shift .acc (by simp [Instr.mnemonic]) rfl⟩
  | rolZp b => exact ⟨_, rfl, .shift (.mem (.zp b)) (by simp [Instr.mnemonic]) rfl⟩
  | rolZpx b => exact ⟨_, rfl, .shift (.mem (.zpx b)) (by simp [Instr.mnemonic]) rfl⟩
  | rolAbs w => exact ⟨_, rfl, .shift (.mem (.abs w)) (by simp [Instr.mnemonic]) rfl⟩
  | rolAbsx w => exact ⟨_, rfl, .shift (.mem (.absx w)) (by simp [Instr.mnemonic]) rfl⟩
  | rorAcc => exact ⟨_, rfl, .shift .acc (by simp [Instr.mnemonic]) rfl⟩
  | rorZp b => exact ⟨_, rfl, .shift (.mem (.zp b)) (by simp [Instr.mnemonic]) rfl⟩
  | rorZpx b => exact ⟨_, rfl, .shift (.mem (.zpx b)) (by simp [Instr.mnemonic]) rfl⟩
  | rorAbs w => exact ⟨_, rfl, .shift (.mem (.abs w)) (by simp [Instr.mnemonic]) rfl⟩
  | rorAbsx w => exact ⟨_, rfl, .shift (.mem (.absx w)) (by simp [Instr.mnemonic]) rfl⟩
  | bcc b => exact ⟨_, rfl, .branch b (by simp [Instr.mnemonic]) rfl⟩
  | bcs b => exact ⟨_, rfl, .branch b (by simp [Instr.mnemonic]) rfl⟩
  | beq b => exact ⟨_, rfl, .branch b (by simp [Instr.mnemonic]) rfl⟩
  | bmi b => exact ⟨_, rfl, .branch b (by simp [Instr.mnemonic]) rfl⟩
  | bne b => exact ⟨_, rfl, .branch b (by simp [Instr.mnemonic]) rfl⟩
  | bpl b => exact ⟨_, rfl, .branch b (by simp [Instr.mnemonic]) rfl⟩
  | bvc b => exact ⟨_, rfl, .branch b (by simp [Instr.mnemonic]) rfl⟩
  | bvs b => exact ⟨_, rfl, .branch b (by simp [Instr.mnemonic]) rfl⟩
  | jmpAbs w => exact ⟨_, rfl, .jump ⟨w, by simp⟩⟩
  | jmpInd w => exact ⟨_, rfl, .jump ⟨w, by simp⟩⟩
  | jsr w => exact ⟨_, rfl, .jsr w⟩
  | rts => exact ⟨_, rfl, .rts⟩
  | pha => exact ⟨_, rfl, .push (by simp)⟩
  | pla => exact ⟨_, rfl, .pla⟩
  | php => exact ⟨_, rfl, .push (by simp)⟩
  | plp => exact ⟨_, rfl, .plp⟩
  | clc => exact ⟨_, rfl, .flag (by simp)⟩
  | sec => exact ⟨_, rfl, .flag (by simp)⟩
  | cli => exact ⟨_, rfl, .flag (by simp)⟩
  | sei => exact ⟨_, rfl, .flag (by simp)⟩
  | cld => exact ⟨_, rfl, .flag (by simp)⟩
  | sed => exact ⟨_, rfl, .flag (by simp)⟩
  | clv => exact ⟨_, rfl, .flag (by simp)⟩
  | nop => exact ⟨_, rfl, .nop⟩
  | brk => exact ⟨_, rfl, .brk⟩
  | rti => exact ⟨_, rfl, .rti⟩

/-- The form every statement over all instructions uses: from the next state, its kind. -/
theorem shape_of_exec {i : Instr} {s t : State} (h : exec i s = .next t) : Shape s i t := by
  obtain ⟨t', h', hs⟩ := exec_shape i s
  rw [h'] at h
  cases h
  exact hs

end Sys2Proof.Machine
end

