-- ==== Sys2Proof/Tests/Slice0.lean ====
section
/-! SUPPORT. The model's own tests. Every expected result is taken from the spec: the encodings of R88 to R92 written out,
the vectors V<n> and H<n> of spec/95_test_vectors.md, one step each; then a witness for the hypotheses of each statement. -/

namespace Sys2Proof.Tests

open Sys2Proof Sys2Proof.Machine

/-! ### Helpers -/

/-- A state with the bytes of an instruction at its PC and the listed bytes of memory. -/
def start (s : State) (bytes : List Byte) (cells : List (Word × Byte)) : State :=
  (cells.foldl (fun t c => t.write c.1 c.2) s).loadBytes bytes s.pc

/-- One step ends with these registers, these bytes of memory and this run state. -/
def ends (s : State) (registers : Handle) (cells : List (Word × Byte)) (run : RunState) (cause : HaltCause)
    (record : Option FaultRecord) : Bool :=
  match step s with
  | .next t =>
    decide (t.observe = registers) && cells.all (fun c => t.read c.1 == c.2)
      && decide (t.runState = run) && decide (t.haltCause = cause) && decide (t.faultRecord = record)
  | .fault _ | .refused _ => false

/-- The words decode to the instructions beside them, alone and with a byte after them, the instructions encode to the
words, and the opcode table has their descriptors. -/
def decodes (rows : List (List Byte × Instr)) : Bool :=
  rows.all fun r =>
    decide (decode r.1 = .ok (r.2, [])) && decide (decode (r.1 ++ [0xEA]) = .ok (r.2, [0xEA])) && encode r.2 == r.1
      && decide (opcodeTable r.2.opcode = some r.2.descriptor)

/-! ### Well-formedness refuses what is ill formed -/

/-- R88 to R92: pairs of a mnemonic and a format that no list has. -/
theorem test_wellFormed_formats :
    admits .sta .imm = false ∧ admits .ldx .zpx = false ∧ admits .sty .absx = false ∧ admits .inc .acc = false
      ∧ admits .jsr .ind = false ∧ admits .jmp .absx = false ∧ admits .cpx .zpx = false ∧ admits .bit .imm = false
      ∧ admits .bne .abs = false ∧ admits .nop .acc = false := by decide

/-- Every entry of the opcode table is a well-formed descriptor (R35, R81, R281). -/
theorem test_opcodeTable : ∀ op : Byte, (opcodeTable op).all Descriptor.wellFormed = true := by decide

/-- One ill-formed descriptor for each check, and the well-formed one it comes from. -/
def lda : Descriptor := { mnemonic := .lda, format := .absx, length := 3, baseCycles := 4, pageCrossExtra := true }

theorem test_wellFormed_descriptor :
    lda.wellFormed = true ∧ { lda with format := .rel, length := 2, pageCrossExtra := false }.wellFormed = false
      ∧ { lda with length := 2 }.wellFormed = false ∧ { lda with baseCycles := 1 }.wellFormed = false
      ∧ { lda with baseCycles := 8 }.wellFormed = false
      ∧ { lda with format := .abs }.wellFormed = false := by decide

/-! ### Decoding: the encodings of R88 to R92, written out -/

/-- R88, ADC. -/
theorem test_decode_adc :
    decodes
      [([0x69, 0x9C], .adcImm 0x9C), ([0x65, 0x9C], .adcZp 0x9C), ([0x75, 0x9C], .adcZpx 0x9C),
       ([0x6D, 0x34, 0x12], .adcAbs 0x1234), ([0x7D, 0x34, 0x12], .adcAbsx 0x1234),
       ([0x79, 0x34, 0x12], .adcAbsy 0x1234), ([0x61, 0x9C], .adcIndx 0x9C), ([0x71, 0x9C], .adcIndy 0x9C)] = true := by decide

/-- R88, AND. -/
theorem test_decode_and :
    decodes
      [([0x29, 0x9C], .andImm 0x9C), ([0x25, 0x9C], .andZp 0x9C), ([0x35, 0x9C], .andZpx 0x9C),
       ([0x2D, 0x34, 0x12], .andAbs 0x1234), ([0x3D, 0x34, 0x12], .andAbsx 0x1234),
       ([0x39, 0x34, 0x12], .andAbsy 0x1234), ([0x21, 0x9C], .andIndx 0x9C), ([0x31, 0x9C], .andIndy 0x9C)] = true := by decide

/-- R88, CMP. -/
theorem test_decode_cmp :
    decodes
      [([0xC9, 0x9C], .cmpImm 0x9C), ([0xC5, 0x9C], .cmpZp 0x9C), ([0xD5, 0x9C], .cmpZpx 0x9C),
       ([0xCD, 0x34, 0x12], .cmpAbs 0x1234), ([0xDD, 0x34, 0x12], .cmpAbsx 0x1234),
       ([0xD9, 0x34, 0x12], .cmpAbsy 0x1234), ([0xC1, 0x9C], .cmpIndx 0x9C), ([0xD1, 0x9C], .cmpIndy 0x9C)] = true := by decide

/-- R88, EOR. -/
theorem test_decode_eor :
    decodes
      [([0x49, 0x9C], .eorImm 0x9C), ([0x45, 0x9C], .eorZp 0x9C), ([0x55, 0x9C], .eorZpx 0x9C),
       ([0x4D, 0x34, 0x12], .eorAbs 0x1234), ([0x5D, 0x34, 0x12], .eorAbsx 0x1234),
       ([0x59, 0x34, 0x12], .eorAbsy 0x1234), ([0x41, 0x9C], .eorIndx 0x9C), ([0x51, 0x9C], .eorIndy 0x9C)] = true := by decide

/-- R88, LDA. -/
theorem test_decode_lda :
    decodes
      [([0xA9, 0x9C], .ldaImm 0x9C), ([0xA5, 0x9C], .ldaZp 0x9C), ([0xB5, 0x9C], .ldaZpx 0x9C),
       ([0xAD, 0x34, 0x12], .ldaAbs 0x1234), ([0xBD, 0x34, 0x12], .ldaAbsx 0x1234),
       ([0xB9, 0x34, 0x12], .ldaAbsy 0x1234), ([0xA1, 0x9C], .ldaIndx 0x9C), ([0xB1, 0x9C], .ldaIndy 0x9C)] = true := by decide

/-- R88, ORA. -/
theorem test_decode_ora :
    decodes
      [([0x09, 0x9C], .oraImm 0x9C), ([0x05, 0x9C], .oraZp 0x9C), ([0x15, 0x9C], .oraZpx 0x9C),
       ([0x0D, 0x34, 0x12], .oraAbs 0x1234), ([0x1D, 0x34, 0x12], .oraAbsx 0x1234),
       ([0x19, 0x34, 0x12], .oraAbsy 0x1234), ([0x01, 0x9C], .oraIndx 0x9C), ([0x11, 0x9C], .oraIndy 0x9C)] = true := by decide

/-- R88, SBC. -/
theorem test_decode_sbc :
    decodes
      [([0xE9, 0x9C], .sbcImm 0x9C), ([0xE5, 0x9C], .sbcZp 0x9C), ([0xF5, 0x9C], .sbcZpx 0x9C),
       ([0xED, 0x34, 0x12], .sbcAbs 0x1234), ([0xFD, 0x34, 0x12], .sbcAbsx 0x1234),
       ([0xF9, 0x34, 0x12], .sbcAbsy 0x1234), ([0xE1, 0x9C], .sbcIndx 0x9C), ([0xF1, 0x9C], .sbcIndy 0x9C)] = true := by decide

/-- R88, STA. -/
theorem test_decode_sta :
    decodes
      [([0x85, 0x9C], .staZp 0x9C), ([0x95, 0x9C], .staZpx 0x9C), ([0x8D, 0x34, 0x12], .staAbs 0x1234),
       ([0x9D, 0x34, 0x12], .staAbsx 0x1234), ([0x99, 0x34, 0x12], .staAbsy 0x1234),
       ([0x81, 0x9C], .staIndx 0x9C), ([0x91, 0x9C], .staIndy 0x9C)] = true := by decide

/-- R89, LDX. -/
theorem test_decode_ldx :
    decodes
      [([0xA2, 0x9C], .ldxImm 0x9C), ([0xA6, 0x9C], .ldxZp 0x9C), ([0xB6, 0x9C], .ldxZpy 0x9C),
       ([0xAE, 0x34, 0x12], .ldxAbs 0x1234), ([0xBE, 0x34, 0x12], .ldxAbsy 0x1234)] = true := by decide

/-- R89, LDY. -/
theorem test_decode_ldy :
    decodes
      [([0xA0, 0x9C], .ldyImm 0x9C), ([0xA4, 0x9C], .ldyZp 0x9C), ([0xB4, 0x9C], .ldyZpx 0x9C),
       ([0xAC, 0x34, 0x12], .ldyAbs 0x1234), ([0xBC, 0x34, 0x12], .ldyAbsx 0x1234)] = true := by decide

/-- R89, STX. -/
theorem test_decode_stx :
    decodes
      [([0x86, 0x9C], .stxZp 0x9C), ([0x96, 0x9C], .stxZpy 0x9C), ([0x8E, 0x34, 0x12], .stxAbs 0x1234)] = true := by decide

/-- R89, STY. -/
theorem test_decode_sty :
    decodes
      [([0x84, 0x9C], .styZp 0x9C), ([0x94, 0x9C], .styZpx 0x9C), ([0x8C, 0x34, 0x12], .styAbs 0x1234)] = true := by decide

/-- R89, CPX. -/
theorem test_decode_cpx :
    decodes
      [([0xE0, 0x9C], .cpxImm 0x9C), ([0xE4, 0x9C], .cpxZp 0x9C), ([0xEC, 0x34, 0x12], .cpxAbs 0x1234)] = true := by decide

/-- R89, CPY. -/
theorem test_decode_cpy :
    decodes
      [([0xC0, 0x9C], .cpyImm 0x9C), ([0xC4, 0x9C], .cpyZp 0x9C), ([0xCC, 0x34, 0x12], .cpyAbs 0x1234)] = true := by decide

/-- R89, BIT. -/
theorem test_decode_bit :
    decodes
      [([0x24, 0x9C], .bitZp 0x9C), ([0x2C, 0x34, 0x12], .bitAbs 0x1234)] = true := by decide

/-- R90, ASL. -/
theorem test_decode_asl :
    decodes
      [([0x0A], .aslAcc), ([0x06, 0x9C], .aslZp 0x9C), ([0x16, 0x9C], .aslZpx 0x9C),
       ([0x0E, 0x34, 0x12], .aslAbs 0x1234), ([0x1E, 0x34, 0x12], .aslAbsx 0x1234)] = true := by decide

/-- R90, LSR. -/
theorem test_decode_lsr :
    decodes
      [([0x4A], .lsrAcc), ([0x46, 0x9C], .lsrZp 0x9C), ([0x56, 0x9C], .lsrZpx 0x9C),
       ([0x4E, 0x34, 0x12], .lsrAbs 0x1234), ([0x5E, 0x34, 0x12], .lsrAbsx 0x1234)] = true := by decide

/-- R90, ROL. -/
theorem test_decode_rol :
    decodes
      [([0x2A], .rolAcc), ([0x26, 0x9C], .rolZp 0x9C), ([0x36, 0x9C], .rolZpx 0x9C),
       ([0x2E, 0x34, 0x12], .rolAbs 0x1234), ([0x3E, 0x34, 0x12], .rolAbsx 0x1234)] = true := by decide

/-- R90, ROR. -/
theorem test_decode_ror :
    decodes
      [([0x6A], .rorAcc), ([0x66, 0x9C], .rorZp 0x9C), ([0x76, 0x9C], .rorZpx 0x9C),
       ([0x6E, 0x34, 0x12], .rorAbs 0x1234), ([0x7E, 0x34, 0x12], .rorAbsx 0x1234)] = true := by decide

/-- R90, INC. -/
theorem test_decode_inc :
    decodes
      [([0xE6, 0x9C], .incZp 0x9C), ([0xF6, 0x9C], .incZpx 0x9C), ([0xEE, 0x34, 0x12], .incAbs 0x1234),
       ([0xFE, 0x34, 0x12], .incAbsx 0x1234)] = true := by decide

/-- R90, DEC. -/
theorem test_decode_dec :
    decodes
      [([0xC6, 0x9C], .decZp 0x9C), ([0xD6, 0x9C], .decZpx 0x9C), ([0xCE, 0x34, 0x12], .decAbs 0x1234),
       ([0xDE, 0x34, 0x12], .decAbsx 0x1234)] = true := by decide

/-- R91. -/
theorem test_decode_control :
    decodes
      [([0x10, 0x9C], .bpl 0x9C), ([0x30, 0x9C], .bmi 0x9C), ([0x50, 0x9C], .bvc 0x9C),
       ([0x70, 0x9C], .bvs 0x9C), ([0x90, 0x9C], .bcc 0x9C), ([0xB0, 0x9C], .bcs 0x9C),
       ([0xD0, 0x9C], .bne 0x9C), ([0xF0, 0x9C], .beq 0x9C), ([0x4C, 0x34, 0x12], .jmpAbs 0x1234),
       ([0x6C, 0x34, 0x12], .jmpInd 0x1234), ([0x20, 0x34, 0x12], .jsr 0x1234), ([0x60], .rts), ([0x40], .rti),
       ([0x00], .brk)] = true := by decide

/-- R92. -/
theorem test_decode_implied :
    decodes
      [([0xAA], .tax), ([0xA8], .tay), ([0x8A], .txa), ([0x98], .tya), ([0xBA], .tsx), ([0x9A], .txs),
       ([0xE8], .inx), ([0xC8], .iny), ([0xCA], .dex), ([0x88], .dey), ([0x18], .clc), ([0x38], .sec),
       ([0x58], .cli), ([0x78], .sei), ([0xD8], .cld), ([0xF8], .sed), ([0xB8], .clv), ([0xEA], .nop),
       ([0x48], .pha), ([0x68], .pla), ([0x08], .php), ([0x28], .plp)] = true := by decide

/-- R94: unknown bytes are refused by name, a truncated list as truncated. -/
theorem test_decode_refused :
    decode [0x02] = .error (.unknownOpcode 0x02) ∧ decode [0x80, 0x12] = .error (.unknownOpcode 0x80)
      ∧ decode [0xFF] = .error (.unknownOpcode 0xFF) ∧ decode [0xEB, 0x00] = .error (.unknownOpcode 0xEB)
      ∧ decode [0xA9] = .error .truncated ∧ decode [0x8D, 0x00] = .error .truncated := by decide

/-- The opcode table numbers bytes from the least significant: LDA #$01 is 0x01A9, JMP (0x30FF) is 0x30FF6C. -/
theorem test_decodeTableWord :
    decodeTableWord 16 0x01A9 = some (.ldaImm 0x01) ∧ decodeTableWord 24 0x30FF6C = some (.jmpInd 0x30FF)
      ∧ decodeTableWord 8 0xE8 = some .inx ∧ decodeTableWord 8 0x02 = none := by decide

/-! ### One step: the vectors of spec/95_test_vectors.md -/

/-- V1, LDA #$00. -/
theorem test_V1 :
    ends (start { State.reset with a := 0x55 } [0xA9, 0x00] [])
      { a := 0x00, x := 0x00, y := 0x00, sp := 0xFD, pc := 0x0602, p := 0x26 } [] .running .none none = true := by
  decide

/-- V2, LDA #$80. -/
theorem test_V2 :
    ends (start State.reset [0xA9, 0x80] [])
      { a := 0x80, x := 0x00, y := 0x00, sp := 0xFD, pc := 0x0602, p := 0xA4 } [] .running .none none = true := by
  decide

/-- V4, LDA $10. -/
theorem test_V4 :
    ends (start State.reset [0xA5, 0x10] [(0x0010, 0xC3)])
      { a := 0xC3, x := 0x00, y := 0x00, sp := 0xFD, pc := 0x0602, p := 0xA4 } [] .running .none none = true := by
  decide

/-- V5, LDA $FF,X. -/
theorem test_V5 :
    ends (start { State.reset with x := 0x02 } [0xB5, 0xFF] [(0x0001, 0x9A), (0x0101, 0x11)])
      { a := 0x9A, x := 0x02, y := 0x00, sp := 0xFD, pc := 0x0602, p := 0xA4 } [] .running .none none = true := by
  decide

/-- V6, LDA $12FF,X. -/
theorem test_V6 :
    ends (start { State.reset with x := 0x01 } [0xBD, 0xFF, 0x12] [(0x1300, 0x44)])
      { a := 0x44, x := 0x01, y := 0x00, sp := 0xFD, pc := 0x0603, p := 0x24 } [] .running .none none = true := by
  decide

/-- V7, LDA $FFFF,Y. -/
theorem test_V7 :
    ends (start { State.reset with y := 0x02 } [0xB9, 0xFF, 0xFF] [(0x0001, 0x66)])
      { a := 0x66, x := 0x00, y := 0x02, sp := 0xFD, pc := 0x0603, p := 0x24 } [] .running .none none = true := by
  decide

/-- V8, LDA ($FE,X). -/
theorem test_V8 :
    ends (start { State.reset with x := 0x01 } [0xA1, 0xFE] [(0x00FF, 0x34), (0x0000, 0x12), (0x1234, 0x5A), (0x0100, 0x99)])
      { a := 0x5A, x := 0x01, y := 0x00, sp := 0xFD, pc := 0x0602, p := 0x24 } [] .running .none none = true := by
  decide

/-- V9, LDA ($FF),Y. -/
theorem test_V9 :
    ends (start { State.reset with y := 0x10 } [0xB1, 0xFF] [(0x00FF, 0xF8), (0x0000, 0x12), (0x0100, 0x77), (0x1308, 0xEE)])
      { a := 0xEE, x := 0x00, y := 0x10, sp := 0xFD, pc := 0x0602, p := 0xA4 } [] .running .none none = true := by
  decide

/-- V10, LDX $10,Y. -/
theorem test_V10 :
    ends (start { State.reset with y := 0xF8 } [0xB6, 0x10] [(0x0008, 0x00)])
      { a := 0x00, x := 0x00, y := 0xF8, sp := 0xFD, pc := 0x0602, p := 0x26 } [] .running .none none = true := by
  decide

/-- V11, LDY $1234,X. -/
theorem test_V11 :
    ends (start { State.reset with x := 0xFF } [0xBC, 0x34, 0x12] [(0x1333, 0x81)])
      { a := 0x00, x := 0xFF, y := 0x81, sp := 0xFD, pc := 0x0603, p := 0xA4 } [] .running .none none = true := by
  decide

/-- V12, STA $0200. -/
theorem test_V12 :
    ends (start { State.reset with a := 0x00, p := 0xA5 } [0x8D, 0x00, 0x02] [(0x0200, 0xFF)])
      { a := 0x00, x := 0x00, y := 0x00, sp := 0xFD, pc := 0x0603, p := 0xA5 } [(0x0200, 0x00)] .running .none none = true := by
  decide

/-- V13, STA $FFFF,X. -/
theorem test_V13 :
    ends (start { State.reset with a := 0x3C, x := 0x01 } [0x9D, 0xFF, 0xFF] [])
      { a := 0x3C, x := 0x01, y := 0x00, sp := 0xFD, pc := 0x0603, p := 0x24 } [(0x0000, 0x3C)] .running .none none = true := by
  decide

/-- V14, STA ($20),Y. -/
theorem test_V14 :
    ends (start { State.reset with a := 0x77, y := 0xFF } [0x91, 0x20] [(0x0020, 0x01), (0x0021, 0x30)])
      { a := 0x77, x := 0x00, y := 0xFF, sp := 0xFD, pc := 0x0602, p := 0x24 } [(0x3100, 0x77)] .running .none none = true := by
  decide

/-- V15, STX $F0,Y. -/
theorem test_V15 :
    ends (start { State.reset with x := 0xAB, y := 0x20 } [0x96, 0xF0] [])
      { a := 0x00, x := 0xAB, y := 0x20, sp := 0xFD, pc := 0x0602, p := 0x24 } [(0x0010, 0xAB), (0x0110, 0x00)] .running .none none = true := by
  decide

/-- V16, STY $80,X. -/
theorem test_V16 :
    ends (start { State.reset with y := 0x80, x := 0x80 } [0x94, 0x80] [])
      { a := 0x00, x := 0x80, y := 0x80, sp := 0xFD, pc := 0x0602, p := 0x24 } [(0x0000, 0x80), (0x0100, 0x00)] .running .none none = true := by
  decide

/-- V17, TAX. -/
theorem test_V17 :
    ends (start { State.reset with a := 0x80 } [0xAA] [])
      { a := 0x80, x := 0x80, y := 0x00, sp := 0xFD, pc := 0x0601, p := 0xA4 } [] .running .none none = true := by
  decide

/-- V18, TAY. -/
theorem test_V18 :
    ends (start { State.reset with a := 0x00, y := 0x33 } [0xA8] [])
      { a := 0x00, x := 0x00, y := 0x00, sp := 0xFD, pc := 0x0601, p := 0x26 } [] .running .none none = true := by
  decide

/-- V19, TXA. -/
theorem test_V19 :
    ends (start { State.reset with x := 0x00, a := 0x12 } [0x8A] [])
      { a := 0x00, x := 0x00, y := 0x00, sp := 0xFD, pc := 0x0601, p := 0x26 } [] .running .none none = true := by
  decide

/-- V20, TYA. -/
theorem test_V20 :
    ends (start { State.reset with y := 0xFF } [0x98] [])
      { a := 0xFF, x := 0x00, y := 0xFF, sp := 0xFD, pc := 0x0601, p := 0xA4 } [] .running .none none = true := by
  decide

/-- V21, TSX. -/
theorem test_V21 :
    ends (start State.reset [0xBA] [])
      { a := 0x00, x := 0xFD, y := 0x00, sp := 0xFD, pc := 0x0601, p := 0xA4 } [] .running .none none = true := by
  decide

/-- V22, TXS. -/
theorem test_V22 :
    ends (start { State.reset with x := 0x00, p := 0xA4 } [0x9A] [])
      { a := 0x00, x := 0x00, y := 0x00, sp := 0x00, pc := 0x0601, p := 0xA4 } [] .running .none none = true := by
  decide

/-- V23, TXS. -/
theorem test_V23 :
    ends (start { State.reset with x := 0x80 } [0x9A] [])
      { a := 0x00, x := 0x80, y := 0x00, sp := 0x80, pc := 0x0601, p := 0x24 } [] .running .none none = true := by
  decide

/-- V30, ADC #$50. -/
theorem test_V30 :
    ends (start { State.reset with a := 0x50 } [0x69, 0x50] [])
      { a := 0xA0, x := 0x00, y := 0x00, sp := 0xFD, pc := 0x0602, p := 0xE4 } [] .running .none none = true := by
  decide

/-- V35, ADC #$09 with D=1. -/
theorem test_V35 :
    ends (start { State.reset with a := 0x09, p := 0x2C } [0x69, 0x09] [])
      { a := 0x12, x := 0x00, y := 0x00, sp := 0xFD, pc := 0x0602, p := 0x2C } [] .running .none none = true := by
  decide

/-- V37, SBC #$01. -/
theorem test_V37 :
    ends (start { State.reset with a := 0x00, p := 0x25 } [0xE9, 0x01] [])
      { a := 0xFF, x := 0x00, y := 0x00, sp := 0xFD, pc := 0x0602, p := 0xA4 } [] .running .none none = true := by
  decide

/-- V40, SBC #$FF. -/
theorem test_V40 :
    ends (start { State.reset with a := 0x7F, p := 0x25 } [0xE9, 0xFF] [])
      { a := 0x80, x := 0x00, y := 0x00, sp := 0xFD, pc := 0x0602, p := 0xE4 } [] .running .none none = true := by
  decide

/-- V43, SBC $10. -/
theorem test_V43 :
    ends (start { State.reset with a := 0x50, p := 0x25 } [0xE5, 0x10] [(0x0010, 0xF0)])
      { a := 0x60, x := 0x00, y := 0x00, sp := 0xFD, pc := 0x0602, p := 0x24 } [] .running .none none = true := by
  decide

/-- V44, AND #$0F. -/
theorem test_V44 :
    ends (start { State.reset with a := 0xF0, p := 0x65 } [0x29, 0x0F] [])
      { a := 0x00, x := 0x00, y := 0x00, sp := 0xFD, pc := 0x0602, p := 0x67 } [] .running .none none = true := by
  decide

/-- V45, AND #$80. -/
theorem test_V45 :
    ends (start { State.reset with a := 0xFF } [0x29, 0x80] [])
      { a := 0x80, x := 0x00, y := 0x00, sp := 0xFD, pc := 0x0602, p := 0xA4 } [] .running .none none = true := by
  decide

/-- V46, ORA #$00. -/
theorem test_V46 :
    ends (start { State.reset with a := 0x00 } [0x09, 0x00] [])
      { a := 0x00, x := 0x00, y := 0x00, sp := 0xFD, pc := 0x0602, p := 0x26 } [] .running .none none = true := by
  decide

/-- V47, ORA $1234. -/
theorem test_V47 :
    ends (start { State.reset with a := 0x01 } [0x0D, 0x34, 0x12] [(0x1234, 0x80)])
      { a := 0x81, x := 0x00, y := 0x00, sp := 0xFD, pc := 0x0603, p := 0xA4 } [] .running .none none = true := by
  decide

/-- V48, EOR #$FF. -/
theorem test_V48 :
    ends (start { State.reset with a := 0xFF } [0x49, 0xFF] [])
      { a := 0x00, x := 0x00, y := 0x00, sp := 0xFD, pc := 0x0602, p := 0x26 } [] .running .none none = true := by
  decide

/-- V49, EOR #$FF. -/
theorem test_V49 :
    ends (start { State.reset with a := 0x0F } [0x49, 0xFF] [])
      { a := 0xF0, x := 0x00, y := 0x00, sp := 0xFD, pc := 0x0602, p := 0xA4 } [] .running .none none = true := by
  decide

/-- V50, BIT $10. -/
theorem test_V50 :
    ends (start { State.reset with a := 0x01 } [0x24, 0x10] [(0x0010, 0xC0)])
      { a := 0x01, x := 0x00, y := 0x00, sp := 0xFD, pc := 0x0602, p := 0xE6 } [] .running .none none = true := by
  decide

/-- V52, BIT $1234. -/
theorem test_V52 :
    ends (start { State.reset with a := 0x40 } [0x2C, 0x34, 0x12] [(0x1234, 0x40)])
      { a := 0x40, x := 0x00, y := 0x00, sp := 0xFD, pc := 0x0603, p := 0x64 } [] .running .none none = true := by
  decide

/-- V54, CMP #$20. -/
theorem test_V54 :
    ends (start { State.reset with a := 0x10, p := 0x65 } [0xC9, 0x20] [])
      { a := 0x10, x := 0x00, y := 0x00, sp := 0xFD, pc := 0x0602, p := 0xE4 } [] .running .none none = true := by
  decide

/-- V55, CMP #$01. -/
theorem test_V55 :
    ends (start { State.reset with a := 0x81 } [0xC9, 0x01] [])
      { a := 0x81, x := 0x00, y := 0x00, sp := 0xFD, pc := 0x0602, p := 0xA5 } [] .running .none none = true := by
  decide

/-- V58, CPX $10. -/
theorem test_V58 :
    ends (start { State.reset with x := 0x05 } [0xE4, 0x10] [(0x0010, 0x06)])
      { a := 0x00, x := 0x05, y := 0x00, sp := 0xFD, pc := 0x0602, p := 0xA4 } [] .running .none none = true := by
  decide

/-- V59, CPY #$7F. -/
theorem test_V59 :
    ends (start { State.reset with y := 0xFF } [0xC0, 0x7F] [])
      { a := 0x00, x := 0x00, y := 0xFF, sp := 0xFD, pc := 0x0602, p := 0xA5 } [] .running .none none = true := by
  decide

/-- V60, INC $10. -/
theorem test_V60 :
    ends (start State.reset [0xE6, 0x10] [(0x0010, 0xFF)])
      { a := 0x00, x := 0x00, y := 0x00, sp := 0xFD, pc := 0x0602, p := 0x26 } [(0x0010, 0x00)] .running .none none = true := by
  decide

/-- V62, DEC $1234,X. -/
theorem test_V62 :
    ends (start { State.reset with x := 0x01 } [0xDE, 0x34, 0x12] [(0x1235, 0x00)])
      { a := 0x00, x := 0x01, y := 0x00, sp := 0xFD, pc := 0x0603, p := 0xA4 } [(0x1235, 0xFF)] .running .none none = true := by
  decide

/-- V63, DEC $10. -/
theorem test_V63 :
    ends (start State.reset [0xC6, 0x10] [(0x0010, 0x01)])
      { a := 0x00, x := 0x00, y := 0x00, sp := 0xFD, pc := 0x0602, p := 0x26 } [(0x0010, 0x00)] .running .none none = true := by
  decide

/-- V64, INX. -/
theorem test_V64 :
    ends (start { State.reset with x := 0xFF } [0xE8] [])
      { a := 0x00, x := 0x00, y := 0x00, sp := 0xFD, pc := 0x0601, p := 0x26 } [] .running .none none = true := by
  decide

/-- V65, INY. -/
theorem test_V65 :
    ends (start { State.reset with y := 0x7F } [0xC8] [])
      { a := 0x00, x := 0x00, y := 0x80, sp := 0xFD, pc := 0x0601, p := 0xA4 } [] .running .none none = true := by
  decide

/-- V66, DEX. -/
theorem test_V66 :
    ends (start { State.reset with x := 0x00 } [0xCA] [])
      { a := 0x00, x := 0xFF, y := 0x00, sp := 0xFD, pc := 0x0601, p := 0xA4 } [] .running .none none = true := by
  decide

/-- V67, DEY. -/
theorem test_V67 :
    ends (start { State.reset with y := 0x01 } [0x88] [])
      { a := 0x00, x := 0x00, y := 0x00, sp := 0xFD, pc := 0x0601, p := 0x26 } [] .running .none none = true := by
  decide

/-- V70, ASL A. -/
theorem test_V70 :
    ends (start { State.reset with a := 0x80 } [0x0A] [])
      { a := 0x00, x := 0x00, y := 0x00, sp := 0xFD, pc := 0x0601, p := 0x27 } [] .running .none none = true := by
  decide

/-- V71, ASL A. -/
theorem test_V71 :
    ends (start { State.reset with a := 0x40, p := 0x25 } [0x0A] [])
      { a := 0x80, x := 0x00, y := 0x00, sp := 0xFD, pc := 0x0601, p := 0xA4 } [] .running .none none = true := by
  decide

/-- V72, ASL $10. -/
theorem test_V72 :
    ends (start { State.reset with a := 0x11 } [0x06, 0x10] [(0x0010, 0xFF)])
      { a := 0x11, x := 0x00, y := 0x00, sp := 0xFD, pc := 0x0602, p := 0xA5 } [(0x0010, 0xFE)] .running .none none = true := by
  decide

/-- V73, LSR A. -/
theorem test_V73 :
    ends (start { State.reset with a := 0x01, p := 0xA4 } [0x4A] [])
      { a := 0x00, x := 0x00, y := 0x00, sp := 0xFD, pc := 0x0601, p := 0x27 } [] .running .none none = true := by
  decide

/-- V74, LSR $1234,X. -/
theorem test_V74 :
    ends (start { State.reset with x := 0x02 } [0x5E, 0x34, 0x12] [(0x1236, 0xFE)])
      { a := 0x00, x := 0x02, y := 0x00, sp := 0xFD, pc := 0x0603, p := 0x24 } [(0x1236, 0x7F)] .running .none none = true := by
  decide

/-- V75, ROL A. -/
theorem test_V75 :
    ends (start { State.reset with a := 0x80 } [0x2A] [])
      { a := 0x00, x := 0x00, y := 0x00, sp := 0xFD, pc := 0x0601, p := 0x27 } [] .running .none none = true := by
  decide

/-- V76, ROL A. -/
theorem test_V76 :
    ends (start { State.reset with a := 0x00, p := 0x25 } [0x2A] [])
      { a := 0x01, x := 0x00, y := 0x00, sp := 0xFD, pc := 0x0601, p := 0x24 } [] .running .none none = true := by
  decide

/-- V77, ROL $F0,X. -/
theorem test_V77 :
    ends (start { State.reset with x := 0x20, p := 0x25 } [0x36, 0xF0] [(0x0010, 0x7F)])
      { a := 0x00, x := 0x20, y := 0x00, sp := 0xFD, pc := 0x0602, p := 0xA4 } [(0x0010, 0xFF)] .running .none none = true := by
  decide

/-- V78, ROR A. -/
theorem test_V78 :
    ends (start { State.reset with a := 0x01 } [0x6A] [])
      { a := 0x00, x := 0x00, y := 0x00, sp := 0xFD, pc := 0x0601, p := 0x27 } [] .running .none none = true := by
  decide

/-- V79, ROR A. -/
theorem test_V79 :
    ends (start { State.reset with a := 0x00, p := 0x25 } [0x6A] [])
      { a := 0x80, x := 0x00, y := 0x00, sp := 0xFD, pc := 0x0601, p := 0xA4 } [] .running .none none = true := by
  decide

/-- V80, ROR $0200. -/
theorem test_V80 :
    ends (start { State.reset with p := 0x25 } [0x6E, 0x00, 0x02] [(0x0200, 0xFF)])
      { a := 0x00, x := 0x00, y := 0x00, sp := 0xFD, pc := 0x0603, p := 0xA5 } [(0x0200, 0xFF)] .running .none none = true := by
  decide

/-- V91, BNE +4, Z=1. -/
theorem test_V91 :
    ends (start { State.reset with p := 0x26 } [0xD0, 0x04] [])
      { a := 0x00, x := 0x00, y := 0x00, sp := 0xFD, pc := 0x0602, p := 0x26 } [] .running .none none = true := by
  decide

/-- V92, BEQ -2, Z=1. -/
theorem test_V92 :
    ends (start { State.reset with p := 0x26 } [0xF0, 0xFE] [])
      { a := 0x00, x := 0x00, y := 0x00, sp := 0xFD, pc := 0x0600, p := 0x26 } [] .running .none none = true := by
  decide

/-- V93, BCS -128, C=1. -/
theorem test_V93 :
    ends (start { State.reset with p := 0x25 } [0xB0, 0x80] [])
      { a := 0x00, x := 0x00, y := 0x00, sp := 0xFD, pc := 0x0582, p := 0x25 } [] .running .none none = true := by
  decide

/-- V94, BPL +127, N=0. -/
theorem test_V94 :
    ends (start { State.reset with pc := 0xFFF0 } [0x10, 0x7F] [])
      { a := 0x00, x := 0x00, y := 0x00, sp := 0xFD, pc := 0x0071, p := 0x24 } [] .running .none none = true := by
  decide

/-- V95, BMI -128, N=1. -/
theorem test_V95 :
    ends (start { State.reset with p := 0xA4, pc := 0x0000 } [0x30, 0x80] [])
      { a := 0x00, x := 0x00, y := 0x00, sp := 0xFD, pc := 0xFF82, p := 0xA4 } [] .running .none none = true := by
  decide

/-- V96, BVS +0, V=1. -/
theorem test_V96 :
    ends (start { State.reset with p := 0x64 } [0x70, 0x00] [])
      { a := 0x00, x := 0x00, y := 0x00, sp := 0xFD, pc := 0x0602, p := 0x64 } [] .running .none none = true := by
  decide

/-- V97, BVC +16, V=1. -/
theorem test_V97 :
    ends (start { State.reset with p := 0x64 } [0x50, 0x10] [])
      { a := 0x00, x := 0x00, y := 0x00, sp := 0xFD, pc := 0x0602, p := 0x64 } [] .running .none none = true := by
  decide

/-- V98, BCC +2, C=0. -/
theorem test_V98 :
    ends (start State.reset [0x90, 0x02] [])
      { a := 0x00, x := 0x00, y := 0x00, sp := 0xFD, pc := 0x0604, p := 0x24 } [] .running .none none = true := by
  decide

/-- V99, JMP $1234. -/
theorem test_V99 :
    ends (start State.reset [0x4C, 0x34, 0x12] [])
      { a := 0x00, x := 0x00, y := 0x00, sp := 0xFD, pc := 0x1234, p := 0x24 } [] .running .none none = true := by
  decide

/-- V100, JMP ($30FF). -/
theorem test_V100 :
    ends (start State.reset [0x6C, 0xFF, 0x30] [(0x30FF, 0x80), (0x3000, 0x50), (0x3100, 0x40)])
      { a := 0x00, x := 0x00, y := 0x00, sp := 0xFD, pc := 0x5080, p := 0x24 } [] .running .none none = true := by
  decide

/-- V102, JMP ($FFFF). -/
theorem test_V102 :
    ends (start State.reset [0x6C, 0xFF, 0xFF] [(0xFFFF, 0x11), (0xFF00, 0x22), (0x0000, 0x33)])
      { a := 0x00, x := 0x00, y := 0x00, sp := 0xFD, pc := 0x2211, p := 0x24 } [] .running .none none = true := by
  decide

/-- V104, JSR $1234. -/
theorem test_V104 :
    ends (start { State.reset with sp := 0x00 } [0x20, 0x34, 0x12] [])
      { a := 0x00, x := 0x00, y := 0x00, sp := 0xFE, pc := 0x1234, p := 0x24 } [(0x0100, 0x06), (0x01FF, 0x02)] .running .none none = true := by
  decide

/-- V105, JSR $0000. -/
theorem test_V105 :
    ends (start { State.reset with pc := 0xFFFD } [0x20, 0x00, 0x00] [])
      { a := 0x00, x := 0x00, y := 0x00, sp := 0xFB, pc := 0x0000, p := 0x24 } [(0x01FD, 0xFF), (0x01FC, 0xFF)] .running .none none = true := by
  decide

/-- V106, RTS. -/
theorem test_V106 :
    ends (start { State.reset with sp := 0xFB, pc := 0x8000 } [0x60] [(0x01FC, 0x02), (0x01FD, 0x06)])
      { a := 0x00, x := 0x00, y := 0x00, sp := 0xFD, pc := 0x0603, p := 0x24 } [] .running .none none = true := by
  decide

/-- V107, RTS. -/
theorem test_V107 :
    ends (start { State.reset with sp := 0xFF } [0x60] [(0x0100, 0xFF), (0x0101, 0xFF)])
      { a := 0x00, x := 0x00, y := 0x00, sp := 0x01, pc := 0x0000, p := 0x24 } [] .running .none none = true := by
  decide

/-- V110, PHA. -/
theorem test_V110 :
    ends (start { State.reset with a := 0x00, p := 0xA4 } [0x48] [(0x01FD, 0xEE)])
      { a := 0x00, x := 0x00, y := 0x00, sp := 0xFC, pc := 0x0601, p := 0xA4 } [(0x01FD, 0x00)] .running .none none = true := by
  decide

/-- V111, PHA. -/
theorem test_V111 :
    ends (start { State.reset with a := 0x7E, sp := 0x00 } [0x48] [])
      { a := 0x7E, x := 0x00, y := 0x00, sp := 0xFF, pc := 0x0601, p := 0x24 } [(0x0100, 0x7E)] .running .none none = true := by
  decide

/-- V112, PLA. -/
theorem test_V112 :
    ends (start { State.reset with sp := 0xFC } [0x68] [(0x01FD, 0x00)])
      { a := 0x00, x := 0x00, y := 0x00, sp := 0xFD, pc := 0x0601, p := 0x26 } [] .running .none none = true := by
  decide

/-- V113, PLA. -/
theorem test_V113 :
    ends (start { State.reset with sp := 0xFF } [0x68] [(0x0100, 0x80)])
      { a := 0x80, x := 0x00, y := 0x00, sp := 0x00, pc := 0x0601, p := 0xA4 } [] .running .none none = true := by
  decide

/-- V115, PHP. -/
theorem test_V115 :
    ends (start { State.reset with p := 0xEF } [0x08] [])
      { a := 0x00, x := 0x00, y := 0x00, sp := 0xFC, pc := 0x0601, p := 0xEF } [(0x01FD, 0xFF)] .running .none none = true := by
  decide

/-- V116, PLP. -/
theorem test_V116 :
    ends (start { State.reset with sp := 0xFC } [0x28] [(0x01FD, 0xFF)])
      { a := 0x00, x := 0x00, y := 0x00, sp := 0xFD, pc := 0x0601, p := 0xEF } [] .running .none none = true := by
  decide

/-- V117, PLP. -/
theorem test_V117 :
    ends (start { State.reset with sp := 0xFC, p := 0xEF } [0x28] [(0x01FD, 0x00)])
      { a := 0x00, x := 0x00, y := 0x00, sp := 0xFD, pc := 0x0601, p := 0x20 } [] .running .none none = true := by
  decide

/-- V119, CLC. -/
theorem test_V119 :
    ends (start { State.reset with p := 0xEF } [0x18] [])
      { a := 0x00, x := 0x00, y := 0x00, sp := 0xFD, pc := 0x0601, p := 0xEE } [] .running .none none = true := by
  decide

/-- V120, SEC. -/
theorem test_V120 :
    ends (start State.reset [0x38] [])
      { a := 0x00, x := 0x00, y := 0x00, sp := 0xFD, pc := 0x0601, p := 0x25 } [] .running .none none = true := by
  decide

/-- V121, CLI. -/
theorem test_V121 :
    ends (start State.reset [0x58] [])
      { a := 0x00, x := 0x00, y := 0x00, sp := 0xFD, pc := 0x0601, p := 0x20 } [] .running .none none = true := by
  decide

/-- V122, SEI. -/
theorem test_V122 :
    ends (start { State.reset with p := 0x20 } [0x78] [])
      { a := 0x00, x := 0x00, y := 0x00, sp := 0xFD, pc := 0x0601, p := 0x24 } [] .running .none none = true := by
  decide

/-- V123, CLD. -/
theorem test_V123 :
    ends (start { State.reset with p := 0x2C } [0xD8] [])
      { a := 0x00, x := 0x00, y := 0x00, sp := 0xFD, pc := 0x0601, p := 0x24 } [] .running .none none = true := by
  decide

/-- V124, SED. -/
theorem test_V124 :
    ends (start State.reset [0xF8] [])
      { a := 0x00, x := 0x00, y := 0x00, sp := 0xFD, pc := 0x0601, p := 0x2C } [] .running .none none = true := by
  decide

/-- V125, CLV. -/
theorem test_V125 :
    ends (start { State.reset with p := 0xE4 } [0xB8] [])
      { a := 0x00, x := 0x00, y := 0x00, sp := 0xFD, pc := 0x0601, p := 0xA4 } [] .running .none none = true := by
  decide

/-- V126, NOP. -/
theorem test_V126 :
    ends (start { State.reset with a := 0x12, x := 0x34, y := 0x56, p := 0xEF } [0xEA] [])
      { a := 0x12, x := 0x34, y := 0x56, sp := 0xFD, pc := 0x0601, p := 0xEF } [] .running .none none = true := by
  decide

/-- V128, BRK. -/
theorem test_V128 :
    ends (start { State.reset with p := 0xE3, sp := 0x01, pc := 0x12FF } [0x00] [(0xFFFE, 0x34), (0xFFFF, 0x12)])
      { a := 0x00, x := 0x00, y := 0x00, sp := 0xFE, pc := 0x1234, p := 0xE7 } [(0x0101, 0x13), (0x0100, 0x01), (0x01FF, 0xF3)] .halted .brk none = true := by
  decide

/-- V129, BRK. -/
theorem test_V129 :
    ends (start { State.reset with pc := 0xFFFF } [0x00] [(0xFFFE, 0xCD)])
      { a := 0x00, x := 0x00, y := 0x00, sp := 0xFA, pc := 0x00CD, p := 0x24 } [(0x01FD, 0x00), (0x01FC, 0x01), (0x01FB, 0x34)] .halted .brk none = true := by
  decide

/-- V131, RTI. -/
theorem test_V131 :
    ends (start { State.reset with sp := 0xFA, p := 0xEF } [0x40] [(0x01FB, 0x00), (0x01FC, 0xFF), (0x01FD, 0xFF)])
      { a := 0x00, x := 0x00, y := 0x00, sp := 0xFD, pc := 0xFFFF, p := 0x20 } [] .running .none none = true := by
  decide

/-- V132, RTI. -/
theorem test_V132 :
    ends (start { State.reset with sp := 0xFE } [0x40] [(0x01FF, 0x81), (0x0100, 0x34), (0x0101, 0x12)])
      { a := 0x00, x := 0x00, y := 0x00, sp := 0x01, pc := 0x1234, p := 0xA1 } [] .running .none none = true := by
  decide

/-- V140, 0x02. -/
theorem test_V140 :
    ends (start State.reset [0x02] [])
      { a := 0x00, x := 0x00, y := 0x00, sp := 0xFD, pc := 0x0601, p := 0x24 } [] .halted .unknownOpcode (some { byte := 0x02, pc := 0x0600 }) = true := by
  decide

/-- V141, 0xFF. -/
theorem test_V141 :
    ends (start { State.reset with a := 0x12, p := 0xA5, pc := 0xFFFF } [0xFF] [])
      { a := 0x12, x := 0x00, y := 0x00, sp := 0xFD, pc := 0x0000, p := 0xA5 } [] .halted .unknownOpcode (some { byte := 0xFF, pc := 0xFFFF }) = true := by
  decide

/-- V142, 0x80. -/
theorem test_V142 :
    ends (start State.reset [0x80, 0x12] [])
      { a := 0x00, x := 0x00, y := 0x00, sp := 0xFD, pc := 0x0601, p := 0x24 } [] .halted .unknownOpcode (some { byte := 0x80, pc := 0x0600 }) = true := by
  decide

/-- V143, 0x1A. -/
theorem test_V143 :
    ends (start { State.reset with pc := 0x1234 } [0x1A] [])
      { a := 0x00, x := 0x00, y := 0x00, sp := 0xFD, pc := 0x1235, p := 0x24 } [] .halted .unknownOpcode (some { byte := 0x1A, pc := 0x1234 }) = true := by
  decide

/-! ### Reset, the host's operations, the page-crossing indication and the bus order -/

/-- R38, R41: what Reset leaves; memory in canonical form. -/
theorem test_reset :
    State.reset.observe = { a := 0x00, x := 0x00, y := 0x00, sp := 0xFD, pc := 0x0600, p := 0x24 }
      ∧ State.reset.runState = .reset ∧ State.reset.haltCause = .none ∧ State.reset.faultRecord = none
      ∧ Memory.wf State.reset.mem = true := by decide

/-- A Halted state with a fault record and a byte of memory. -/
def stopped : State :=
  { State.reset with
    a := 0x12, sp := 0x01, p := 0xE5, pc := 0x0603, runState := .halted, haltCause := .unknownOpcode
    faultRecord := some { byte := 0x02, pc := 0x0602 }, mem := [(0x0200, 0xAB)] }

/-- H1. -/
theorem test_H1 : stopped.hostReset = { State.reset with mem := [(0x0200, 0xAB)] } := by decide

/-- H2. -/
theorem test_H2 : State.reset.load [0xA9, 0x01] = { State.reset with mem := [(0x0600, 0xA9), (0x0601, 0x01)] } := by decide

/-- H3. -/
theorem test_H3 : step stopped = .fault (.haltedNoStep .unknownOpcode (some { byte := 0x02, pc := 0x0602 })) := rfl

/-- H4. -/
theorem test_H4 :
    ({ State.reset with runState := .running }).hostHalt
      = { State.reset with runState := .halted, haltCause := .external } := by decide

/-- H5, one step of it. -/
theorem test_H5 :
    step (start State.reset [0x4C, 0x00, 0x06] [])
      = .next { start State.reset [0x4C, 0x00, 0x06] [] with runState := .running } := rfl

/-- A write of the value an unlisted byte reads as leaves no entry; the list stays sorted (R53, log 1). -/
theorem test_memory_form :
    (start State.reset [] [(0x0200, 0x01), (0x0100, 0x02), (0x0200, 0x00), (0xFFFF, 0x03)]).mem
      = [(0x0100, 0x02), (0xFFFF, 0x03)] := by decide

/-- R117, R123: V6 crosses a page, V5 and V4 do not. -/
theorem test_pageCrossed :
    pageCrossed (.absx 0x12FF) { State.reset with x := 0x01 } = true
      ∧ pageCrossed (.absx 0x1200) { State.reset with x := 0xFF } = false
      ∧ pageCrossed (.zpx 0xFF) { State.reset with x := 0x02 } = false := by decide

/-- P3: the bus accesses of PLA and of RTS after their own byte. -/
theorem test_bus_P3 :
    stepEvents (start { State.reset with pc := 0x0615, sp := 0xFA } [0x68] [(0x01FB, 0x42)])
        = [.read 0x0615 0x68, .read 0x01FB 0x42]
      ∧ stepEvents (start { State.reset with pc := 0x0616, sp := 0xFB } [0x60] [(0x01FC, 0x02), (0x01FD, 0x06)])
        = [.read 0x0616 0x60, .read 0x01FC 0x02, .read 0x01FD 0x06] := by decide

/-- P4: the bus accesses of `81 FE`. -/
theorem test_bus_P4 :
    stepEvents (start { State.reset with a := 0x77, x := 0x01, pc := 0x0611 } [0x81, 0xFE]
        [(0x00FF, 0x34), (0x0000, 0x12)])
      = [.read 0x0611 0x81, .read 0x0612 0xFE, .read 0x00FF 0x34, .read 0x0000 0x12, .write 0x1234 0x77] := by decide

/-! ### Witnesses: the hypotheses of each statement are met -/

/-- An instruction with a word at its greatest value. -/
theorem witness_EncodeThenDecode :
    (Instr.jmpInd 0xFFFF).wellFormed = true := by decide

/-- Bytes that decode and leave a rest. -/
theorem witness_DecodeThenEncode :
    decode [0x6C, 0xFF, 0x30, 0xEA] = .ok (.jmpInd 0x30FF, [0xEA]) := by decide

/-- One row of the table. -/
theorem witness_SpecBytesDecode :
    Obligations.SpecBytesDecode → decode [0x8D, 0x00, 0x02] = .ok (.staAbs 0x0200, []) := fun h =>
  h _ _ (by decide)

/-- The least and the greatest unknown byte, fetched, and as operand bytes of one and of two. -/
theorem witness_UnknownBytesRefused :
    (start State.reset [0x02] []).runState ≠ .halted ∧ (start State.reset [0x02] []).read 0x0600 ∈ unknownOpcodeBytes
      ∧ (start State.reset [0xFF] []).runState ≠ .halted
      ∧ (start State.reset [0xFF] []).read 0x0600 ∈ unknownOpcodeBytes
      ∧ (0x02 : Byte) ∈ (Instr.ldaImm 0x02).operand.bytes ∧ (0xFF : Byte) ∈ (Instr.jmpInd 0x30FF).operand.bytes := by decide

/-- A three-byte instruction that wraps past 0xFFFF. -/
theorem witness_StepRunsDecodedInstruction :
    let s := start { State.reset with pc := 0xFFFE } [0x8D, 0x00, 0x02] []
    s.runState ≠ .halted ∧ decode [s.read s.pc, s.read (s.pc + 1), s.read (s.pc + 2)] = .ok (.staAbs 0x0200, [])
      ∧ (Instr.staAbs 0x0200).wellFormed = true := by decide

/-- An unknown byte at 0xFFFF. -/
theorem witness_UnknownOpcodeHaltsTheUnit :
    let s := start { State.reset with pc := 0xFFFF } [0xFF] []
    s.runState ≠ .halted ∧ s.read s.pc ∈ unknownOpcodeBytes := by decide

/-- A Halted state. -/
theorem witness_HaltedTakesNoStep :
    stopped.runState = .halted := by decide

/-- Both sides of the equivalence: a state that steps and one that does not. -/
theorem witness_DecodedInstructionsComplete :
    State.reset.runState ≠ .halted ∧ ¬ stopped.runState ≠ .halted := by decide

/-- An instruction of length one at 0xFFFF and one of length three. -/
theorem witness_PcAdvancesByLength :
    Instr.nop.mnemonic ∉ pcWriters ∧ (∃ t, exec .nop { State.reset with pc := 0xFFFF } = .next t)
      ∧ (Instr.ldaAbs 0x1234).mnemonic ∉ pcWriters ∧ ∃ t, exec (.ldaAbs 0x1234) State.reset = .next t := by
  refine ⟨by decide, ⟨_, rfl⟩, by decide, ⟨_, rfl⟩⟩

/-- SEC from reset changes C. -/
theorem witness_FlagsChangeOnlyByTheirWriters :
    State.reset.flag .b2 = true ∧ State.reset.flag .b = false
      ∧ ∃ t, exec .sec State.reset = .next t ∧ t.flag .c ≠ State.reset.flag .c := by
  refine ⟨by decide, by decide, _, rfl, by decide⟩

/-- INX changes X, PHA changes SP. -/
theorem witness_RegistersChangeOnlyByTheirWriters :
    (∃ t, exec .inx State.reset = .next t ∧ t.reg .x ≠ State.reset.reg .x)
      ∧ ∃ t, exec .pha State.reset = .next t ∧ t.sp ≠ State.reset.sp := by
  refine ⟨⟨_, rfl, by decide⟩, _, rfl, by decide⟩

/-- PHA changes memory. -/
theorem witness_MemoryChangesOnlyByStores :
    ∃ t, exec .pha { State.reset with a := 0x7E } = .next t ∧ t.mem ≠ State.reset.mem := by
  refine ⟨_, rfl, by decide⟩

/-- NOP for the first clause, BRK for the second. -/
theorem witness_OnlyBrkChangesTheRunState :
    (∃ t, exec .nop State.reset = .next t ∧ Instr.nop ≠ .brk) ∧ ∃ t, exec .brk State.reset = .next t := by
  refine ⟨⟨_, rfl, by decide⟩, _, rfl⟩

/-- The reset state meets the invariant and steps. -/
theorem witness_StepKeepsInvariant :
    State.reset.Inv ∧ ∃ t, step State.reset = .next t := by
  refine ⟨by unfold State.Inv; decide, _, rfl⟩

/-- A Halted state with a record meets the invariant. -/
theorem witness_HostMovesKeepInvariant :
    stopped.Inv := by
  unfold State.Inv; decide

/-- A canonical memory with an entry. -/
theorem witness_ReadAfterWrite :
    Memory.wf stopped.mem = true := by decide

/-- The word at 0xFFFF, whose second byte is at 0x0000. -/
theorem witness_WordAccessIsLittleEndian :
    Memory.wf stopped.mem = true ∧ (stopped.writeWord 0xFFFF 0x1234).read 0x0000 = 0x12
      ∧ (stopped.writeWord 0xFFFF 0x1234).readWord 0xFFFF = 0x1234 := by decide

/-- Two bytes from 0xFFFF on: the second is at 0x0000, and 0x0001 is outside. -/
theorem witness_LoadCopiesVerbatim :
    Memory.wf stopped.mem = true ∧ ([0xA9, 0x01] : List Byte).length ≤ 65536 ∧ ([0xA9, 0x01] : List Byte)[1]? = some 0x01
      ∧ (stopped.loadBytes [0xA9, 0x01] 0xFFFF).read 0x0000 = 0x01
      ∧ ∀ k, k < ([0xA9, 0x01] : List Byte).length → (0x0001 : Word) ≠ BitVec.ofNat 16 ((0xFFFF : Word).toNat + k) := by decide

/-- Two ways to the same memory. -/
theorem witness_EqualReadsEqualMemory :
    Memory.wf (memWrite (memWrite [] 3 7) 9 1) = true ∧ Memory.wf (memWrite (memWrite [] 9 1) 3 7) = true
      ∧ ∀ addr : Word, memRead (memWrite (memWrite [] 3 7) 9 1) addr.toNat = memRead (memWrite (memWrite [] 9 1) 3 7) addr.toNat := ⟨by decide, by decide, fun _ => rfl⟩

/-- A step that writes memory. -/
theorem witness_StepEventsReplayToNextMemory :
    Memory.wf (start { State.reset with a := 0x7E } [0x48] []).mem = true
      ∧ ∃ t, step (start { State.reset with a := 0x7E } [0x48] []) = .next t := by
  refine ⟨by decide, _, rfl⟩

/-- INC absolute and ROR zero page indexed by X. -/
theorem witness_ReadModifyWriteOneReadOneWrite :
    Memory.wf stopped.mem = true
      ∧ ((Instr.incAbs 0x0200).mnemonic ∈ [Mnemonic.inc, .dec, .asl, .lsr, .rol, .ror]
        ∧ (Instr.incAbs 0x0200).operand = .mem (.abs 0x0200) ∧ ∃ t, exec (.incAbs 0x0200) stopped = .next t)
      ∧ (Instr.rorZpx 0xFF).mnemonic ∈ [Mnemonic.inc, .dec, .asl, .lsr, .rol, .ror]
        ∧ (Instr.rorZpx 0xFF).operand = .mem (.zpx 0xFF) ∧ ∃ t, exec (.rorZpx 0xFF) stopped = .next t := by
  refine ⟨by decide, ⟨by decide, rfl, _, rfl⟩, by decide, rfl, _, rfl⟩

/-- A canonical memory, SP = 0x01: the pushes wrap within the stack page. -/
theorem witness_BrkBusOrder :
    Memory.wf stopped.mem = true ∧ stopped.sp = 0x01 := by decide

/-- A canonical memory, SP = 0x01: the pushes wrap within the stack page. -/
theorem witness_JsrPushesReturnAddress :
    Memory.wf stopped.mem = true ∧ stopped.sp = 0x01 := by decide

/-- A canonical memory, SP = 0x01: the pushes wrap within the stack page. -/
theorem witness_CallThenReturnResumes :
    Memory.wf stopped.mem = true ∧ stopped.sp = 0x01 := by decide

/-- A canonical memory, SP = 0x01: the pushes wrap within the stack page. -/
theorem witness_PhaPlaMoveOneByte :
    Memory.wf stopped.mem = true ∧ stopped.sp = 0x01 := by decide

/-- A canonical memory, SP = 0x01: the pushes wrap within the stack page. -/
theorem witness_PhpPlpMoveStatus :
    Memory.wf stopped.mem = true ∧ stopped.sp = 0x01 := by decide

/-- A canonical memory, SP = 0x01: the pushes wrap within the stack page. -/
theorem witness_TwoHundredFiftySixPushesWrap :
    Memory.wf stopped.mem = true ∧ stopped.sp = 0x01 := by decide

/-- A canonical memory, SP = 0x01: the pushes wrap within the stack page. -/
theorem witness_BrkSavesVectorsAndHalts :
    Memory.wf stopped.mem = true ∧ stopped.sp = 0x01 := by decide

/-- Both instructions of format ZPY; the index wraps. -/
theorem witness_ZeroPageAddresses :
    admits .ldx .zpy = true ∧ admits .stx .zpy = true ∧ memAddr (.zpx 0xFF) { State.reset with x := 0x02 } = 0x0001 := by decide

/-- The one instruction of format IND. -/
theorem witness_JumpsSetPc :
    admits .jmp .ind = true := by decide

/-- The invariant holds at reset; the registers may change between the push and the pull. -/
theorem witness_PushThenPullRestores :
    State.reset.Inv ∧ ∃ t, exec .pha State.reset = .next t
      ∧ ({ t with a := 0x55, p := 0xA5 } : State).mem = t.mem ∧ ({ t with a := 0x55, p := 0xA5 } : State).sp = t.sp := by
  refine ⟨by unfold State.Inv; decide, _, rfl, rfl, rfl⟩

/-- Both rotations, and both orders. -/
theorem witness_NineRotatesRestore :
    Obligations.NineRotatesRestore →
      (∃ run : Nat → State, run 0 = stopped ∧ (run 9).a = stopped.a)
      ∧ (∃ run : Nat → State, run 0 = stopped ∧ (run 9).a = stopped.a)
      ∧ (∃ t, exec .rolAcc stopped = .next t) ∧ ∃ t, exec .rorAcc stopped = .next t := fun h =>
  ⟨(h.1 stopped .rolAcc (by decide)).imp fun _ hr => ⟨hr.1, hr.2.2.1⟩,
    (h.1 stopped .rorAcc (by decide)).imp fun _ hr => ⟨hr.1, hr.2.2.1⟩,
    (h.2.1 stopped .rolAcc .rorAcc (by decide)).imp fun _ hr => hr.choose_spec.1,
    (h.2.1 stopped .rorAcc .rolAcc (by decide)).imp fun _ hr => hr.choose_spec.1⟩

/-- A run that does not end, and one that ends by each cause; the unknown byte is at 0xFFFF. -/
theorem witness_RunEndsAsItsCauseSays :
    State.reset.Inv ∧ State.reset.runState ≠ .halted
      ∧ (runWithCallback [] State.reset).1.runState ≠ .halted
      ∧ (runWithCallback [false, false] State.reset).1.haltCause = .brk
      ∧ (runWithCallback [true] (start State.reset [0xEA] [])).1.haltCause = .external
      ∧ (runWithCallback [false] (start { State.reset with pc := 0xFFFF } [0xFF] [])).1.haltCause = .unknownOpcode
      ∧ (runWithCallback [false] (start { State.reset with pc := 0xFFFF } [0xFF] [])).1.pc = 0x0000 := by
  refine ⟨by unfold State.Inv; decide, ?_⟩; decide

/-- The first row and the last. -/
theorem witness_LoadsWriteRegisterAndZN :
    Obligations.LoadsWriteRegisterAndZN →
      (Instr.ldaImm 0x80).opcode = 0xA9 ∧ (Instr.ldyAbsx 0xFFFF).opcode = 0xBC := fun h =>
  ⟨(h 0x80 0 State.reset 0xA9 _ .a (.imm 0x80) (by decide)).1, (h 0 0xFFFF State.reset 0xBC _ .y (.mem (.absx 0xFFFF)) (by decide)).1⟩

/-- The first row and the last. -/
theorem witness_StoresWriteOneByte :
    Obligations.StoresWriteOneByte →
      (Instr.staZp 0xFF).opcode = 0x85 ∧ (Instr.styAbs 0xFFFF).opcode = 0x8C := fun h =>
  ⟨(h 0xFF 0 State.reset 0x85 _ .a (.zp 0xFF) (by decide) (by decide)).1,
    (h 0 0xFFFF State.reset 0x8C _ .y (.abs 0xFFFF) (by decide) (by decide)).1⟩

/-- The first row and the last. -/
theorem witness_TransfersCopyAndSetZN :
    Obligations.TransfersCopyAndSetZN →
      Instr.tax.opcode = 0xAA ∧ Instr.tsx.opcode = 0xBA := fun h =>
  ⟨(h.1 State.reset 0xAA _ .x 0x00 (by decide)).1, (h.1 State.reset 0xBA _ .x 0xFD (by decide)).1⟩

/-- The first row and the last. -/
theorem witness_AdcAddsWithCarry :
    Obligations.AdcAddsWithCarry →
      (Instr.adcImm 0xFF).opcode = 0x69 ∧ (Instr.adcIndy 0xFF).opcode = 0x71 := fun h =>
  ⟨(h 0xFF 0 State.reset 0x69 _ (.imm 0xFF) (by decide)).1, (h 0xFF 0 State.reset 0x71 _ (.mem (.indy 0xFF)) (by decide)).1⟩

/-- The first row and the last. -/
theorem witness_SbcSubtractsWithBorrow :
    Obligations.SbcSubtractsWithBorrow →
      (Instr.sbcImm 0xFF).opcode = 0xE9 ∧ (Instr.sbcIndy 0xFF).opcode = 0xF1 := fun h =>
  ⟨(h 0xFF 0 State.reset 0xE9 _ (.imm 0xFF) (by decide)).1, (h 0xFF 0 State.reset 0xF1 _ (.mem (.indy 0xFF)) (by decide)).1⟩

/-- ADC with D clear and with D set. -/
theorem witness_DecimalFlagIsInert :
    (Instr.adcImm 0x09).mnemonic ∈ [Mnemonic.adc, .sbc]
      ∧ (∃ t, exec (.adcImm 0x09) State.reset = .next t)
      ∧ ∃ u, exec (.adcImm 0x09) (State.reset.setP (setFlag .d (!State.reset.flag .d) State.reset.p)) = .next u := by
  refine ⟨by decide, ⟨_, rfl⟩, _, rfl⟩

/-- The first row and the last. -/
theorem witness_LogicIsBitwise :
    Obligations.LogicIsBitwise →
      (Instr.andImm 0xFF).opcode = 0x29 ∧ (Instr.eorIndy 0xFF).opcode = 0x51 := fun h =>
  ⟨(h 0xFF 0 State.reset 0x29 _ (· && ·) (.imm 0xFF) (by simp)).1,
    (h 0xFF 0 State.reset 0x51 _ xor (.mem (.indy 0xFF)) (by simp)).1⟩

/-- Both rows. -/
theorem witness_BitTestsMemory :
    Obligations.BitTestsMemory →
      (Instr.bitZp 0xFF).opcode = 0x24 ∧ (Instr.bitAbs 0xFFFF).opcode = 0x2C := fun h =>
  ⟨(h 0xFF 0 State.reset 0x24 _ (.zp 0xFF) (by decide)).1, (h 0 0xFFFF State.reset 0x2C _ (.abs 0xFFFF) (by decide)).1⟩

/-- The first row and the last. -/
theorem witness_ComparesSetCZN :
    Obligations.ComparesSetCZN →
      (Instr.cmpImm 0xFF).opcode = 0xC9 ∧ (Instr.cpyAbs 0xFFFF).opcode = 0xCC := fun h =>
  ⟨(h 0xFF 0 State.reset 0xC9 _ .a (.imm 0xFF) (by decide)).1, (h 0 0xFFFF State.reset 0xCC _ .y (.mem (.abs 0xFFFF)) (by decide)).1⟩

/-- The first row and the last. -/
theorem witness_MemoryIncrementDecrement :
    Obligations.MemoryIncrementDecrement →
      (Instr.incZp 0xFF).opcode = 0xE6 ∧ (Instr.decAbsx 0xFFFF).opcode = 0xDE := fun h =>
  ⟨(h 0xFF 0 State.reset 0xE6 _ 1 (.zp 0xFF) (by decide) (by decide)).1,
    (h 0 0xFFFF State.reset 0xDE _ 255 (.absx 0xFFFF) (by decide) (by decide)).1⟩

/-- The first row and the last. -/
theorem witness_RegisterIncrementDecrement :
    Obligations.RegisterIncrementDecrement →
      Instr.inx.opcode = 0xE8 ∧ Instr.dey.opcode = 0x88 := fun h =>
  ⟨(h State.reset 0xE8 _ .x 1 (by decide)).1, (h State.reset 0x88 _ .y 255 (by decide)).1⟩

/-- The first row and the last. -/
theorem witness_AccumulatorShifts :
    Obligations.AccumulatorShifts →
      Instr.aslAcc.opcode = 0x0A ∧ Instr.rorAcc.opcode = 0x6A := fun h =>
  ⟨(h State.reset 0x0A _ (fun v _ => 2 * v % 256) (fun v => decide (128 ≤ v)) (by simp)).1,
    (h State.reset 0x6A _ (fun v c => v / 2 + 128 * c) (fun v => decide (v % 2 = 1)) (by simp)).1⟩

/-- The first row and the last. -/
theorem witness_MemoryShifts :
    Obligations.MemoryShifts →
      (Instr.aslZp 0xFF).opcode = 0x06 ∧ (Instr.rorAbsx 0xFFFF).opcode = 0x7E := fun h =>
  ⟨(h 0xFF 0 State.reset 0x06 _ (fun v _ => 2 * v % 256) (fun v => decide (128 ≤ v)) (.zp 0xFF) (by decide) (by simp)).1,
    (h 0 0xFFFF State.reset 0x7E _ (fun v c => v / 2 + 128 * c) (fun v => decide (v % 2 = 1)) (.absx 0xFFFF)
      (by decide) (by simp)).1⟩

/-- The first row and the last. -/
theorem witness_BranchesTestOneFlag :
    Obligations.BranchesTestOneFlag →
      (Instr.bcc 0x7F).opcode = 0x90 ∧ (Instr.bvs 0x80).opcode = 0x70 := fun h =>
  ⟨(h 0x7F State.reset 0x90 _ .c false (by decide)).1, (h 0x80 State.reset 0x70 _ .v true (by decide)).1⟩

/-- The first row and the last. -/
theorem witness_FlagInstructionsWriteOneFlag :
    Obligations.FlagInstructionsWriteOneFlag →
      Instr.clc.opcode = 0x18 ∧ Instr.clv.opcode = 0xB8 := fun h =>
  ⟨(h State.reset 0x18 _ .c false (by decide)).1, (h State.reset 0xB8 _ .v false (by decide)).1⟩

/-- A state of each kind. -/
theorem witness_ExternalHaltKeepsEverything :
    State.reset.runState ≠ .halted ∧ stopped.runState = .halted := by decide

/-- BRK, which retires, and an unknown byte, which does not. -/
theorem witness_RunNotifiesRetiredInstructions :
    (State.reset.runState ≠ .halted ∧ (∃ t, step State.reset = .next t)
        ∧ State.reset.read State.reset.pc ∉ unknownOpcodeBytes)
      ∧ (start State.reset [0x02] []).runState ≠ .halted ∧ (∃ t, step (start State.reset [0x02] []) = .next t)
        ∧ (start State.reset [0x02] []).read 0x0600 ∈ unknownOpcodeBytes := by
  refine ⟨⟨by decide, ⟨_, rfl⟩, by decide⟩, by decide, ⟨_, rfl⟩, by decide⟩

end Sys2Proof.Tests
end

