-- ==== Sys2Proof/Proofs/Scope.lean ====
section
/-! Fetch, and where an instruction leaves PC (00_scope.md): the length of an encoding, what `exec` does to PC in each
kind of instruction, and what a step answers where the bytes at PC decode. -/

namespace Sys2Proof.Machine

/-! ### Lengths (R81 to R86) -/

theorem Operand.bytes_length (o : Operand) : o.bytes.length + 1 = o.format.length := by
  cases o with
  | mem f => cases f <;> rfl
  | imp | acc | imm | target | ind | rel => rfl

theorem encode_length (i : Instr) : (encode i).length = i.length :=
  Operand.bytes_length i.operand

theorem format_length_sourceOperand (src : Source) : (sourceOperand src).format.length = sourceLength src := by
  cases src <;> rfl

theorem format_length_placeOperand (pl : Place) : (placeOperand pl).format.length = placeLength pl := by
  cases pl <;> rfl

section Lengths

variable {i : Instr}

theorem length_of_operand_source {src : Source} (ho : i.operand = sourceOperand src) : i.length = sourceLength src := by
  rw [Instr.length, Instr.format, ho, format_length_sourceOperand]

theorem length_of_operand_mem {f : MemForm} (ho : i.operand = .mem f) : i.length = memLength f := by
  rw [Instr.length, Instr.format, ho]; rfl

theorem length_of_operand_place {pl : Place} (ho : i.operand = placeOperand pl) : i.length = placeLength pl := by
  rw [Instr.length, Instr.format, ho, format_length_placeOperand]

/-- Where a kind lists its instructions in a table, each of one byte, the kind's instruction has one byte. -/
theorem length_one_of_row {β : Type} {b : β} {rows : List (Instr × β)} (hi : (i, b) ∈ rows)
    (hrows : rows.all (fun row => row.1.length == 1) = true) : i.length = 1 :=
  eq_of_beq (List.all_eq_true.mp hrows _ hi)

end Lengths

/-! ### PC after an instruction (R10, R22) -/

@[simp] theorem placeWrite_pc (pl : Place) (v : Byte) (s : State) : (placeWrite pl v s).pc = s.pc := by
  cases pl <;> simp [placeWrite]

/-- An instruction either is of a kind that writes PC itself or moves PC past its own bytes. -/
theorem Shape.pcWriter_or_advance {i : Instr} {s t : State} (h : Shape s i t) :
    i.mnemonic ∈ pcWriters ∨ t.pc = s.pc + BitVec.ofNat 16 i.length := by
  cases h with
  | load src _ ho => exact .inr (by simp [loadReg, length_of_operand_source ho])
  | store f _ ho => exact .inr (by simp [storeReg, length_of_operand_mem ho])
  | add src _ ho => exact .inr (by simp [addToA, length_of_operand_source ho])
  | logic src _ ho => exact .inr (by simp [logicToA, length_of_operand_source ho])
  | bit f _ ho => exact .inr (by simp [bitTest, length_of_operand_mem ho])
  | compare src _ ho => exact .inr (by simp [compareReg, length_of_operand_source ho])
  | stepMem f _ ho => exact .inr (by simp [addToMem, length_of_operand_mem ho])
  | shift pl _ ho => exact .inr (by simp [shiftPlace, length_of_operand_place ho])
  | transfer hi => exact .inr (by simp [transferReg, length_one_of_row hi rfl])
  | stepReg hi => exact .inr (by simp [addToReg, length_one_of_row hi rfl])
  | push hi => exact .inr (by simp [length_one_of_row hi rfl])
  | flag hi => exact .inr (by simp [writeFlag, length_one_of_row hi rfl])
  | txs | pla | plp | nop => exact .inr rfl
  | branch _ hm _ =>
    have hfirst := List.mem_map_of_mem (f := Prod.fst) hm
    exact .inl (List.mem_append_left [Mnemonic.jmp, .jsr, .rts, .rti, .brk] hfirst)
  | jump hi =>
    obtain ⟨w, hi⟩ := hi
    simp only [List.mem_cons, Prod.mk.injEq, List.not_mem_nil, or_false] at hi
    obtain ⟨rfl, -⟩ | ⟨rfl, -⟩ := hi <;> simp [pcWriters, Instr.mnemonic]
  | jsr | rts | brk | rti => simp [pcWriters, Instr.mnemonic]

/-- Settles O9, from the kinds of instruction: PC goes past the bytes of the encoding. -/
theorem pcAdvancesByLength : Obligations.PcAdvancesByLength := by
  unfold Obligations.PcAdvancesByLength
  intro i s t hi hexec
  have hpc := (shape_of_exec hexec).pcWriter_or_advance.resolve_left hi
  rw [encode_length]
  exact pcPast_advance s i.length hpc

/-! ### Fetch and step (R10, R32, R251) -/

theorem State.fetch_of_decode {s : State} {i : Instr} {rest : List Byte}
    (h : decode s.instrBytes = .ok (i, rest)) : s.fetch = .ok i := by
  simp [State.fetch, h]

theorem step_of_fetch {s : State} {i : Instr} (hrun : s.runState ≠ .halted) (hf : s.fetch = .ok i) :
    step s = exec i s.startStep := by
  simp [step, hrun, hf]

/-- Settles O5: the three bytes are `instrBytes`, and the Running state is `startStep`. -/
theorem stepRunsDecodedInstruction : Obligations.StepRunsDecodedInstruction := by
  unfold Obligations.StepRunsDecodedInstruction
  intro s i rest hrun hdecode _
  exact step_of_fetch hrun (State.fetch_of_decode hdecode)

end Sys2Proof.Machine
end

/-! The state (10_state.md): the frame of every instruction over the lists of R20, R24, R28, R31 and R34, the invariant of
R41 along steps and the host's moves, the canonical form of memory, and Push with Pull. -/

namespace Sys2Proof.Machine

/-! ### What each kind of instruction leaves alone (R20, R24, R28, R31, R34) -/

/-- The frame of an operation that leaves SP and the run state alone and writes at most the listed registers and flags.
It is `OnlyWrites` without its memory part, so that it holds of the operations that store, too. -/
structure KeptBut (regs : List Reg) (flags : List Flag) (s t : State) : Prop where
  regs : RegsKeptBut regs s t
  sp : t.sp = s.sp
  flags : FlagsKeptBut flags s t
  run : RunKept s t

theorem OnlyWrites.keptBut {regs : List Reg} {flags : List Flag} {s t : State} (h : OnlyWrites regs flags s t) :
    KeptBut regs flags s t := by
  obtain ⟨hregs, hsp, hflags, -, hrun⟩ := h
  exact ⟨hregs, hsp, hflags, hrun⟩

theorem storeReg_keptBut (r : Reg) (f : MemForm) (s : State) : KeptBut [] [] s (storeReg r f s) where
  regs _ _ := by simp [storeReg]
  sp := by simp [storeReg]
  flags _ _ := by simp [storeReg]
  run := ⟨by simp [storeReg], by simp [storeReg], by simp [storeReg]⟩

theorem addToMem_keptBut (d : Byte) (f : MemForm) (s : State) : KeptBut [] [.z, .n] s (addToMem d f s) where
  regs _ _ := by simp [addToMem]
  sp := by simp [addToMem]
  flags f hf := by simp at hf; simp [addToMem, hf, State.flag]
  run := ⟨by simp [addToMem], by simp [addToMem], by simp [addToMem]⟩

theorem shiftMem_keptBut (op : Byte → Bool → Shifted) (f : MemForm) (s : State) :
    KeptBut [] [.c, .z, .n] s (shiftPlace op (.mem f) s) where
  regs _ _ := by simp [shiftPlace, placeWrite]
  sp := by simp [shiftPlace, placeWrite]
  flags f hf := by simp at hf; simp [shiftPlace, placeWrite, hf, State.flag]
  run := ⟨by simp [shiftPlace, placeWrite], by simp [shiftPlace, placeWrite], by simp [shiftPlace, placeWrite]⟩

/-- The mnemonics R20 lists as writers of a general register in every format. -/
def regWriters : Reg → List Mnemonic
  | .a => [.lda, .adc, .sbc, .and, .ora, .eor, .pla, .txa, .tya]
  | .x => [.ldx, .inx, .dex, .tax, .tsx]
  | .y => [.ldy, .iny, .dey, .tay]

theorem writesReg_of_regWriter {i : Instr} {r : Reg} (h : (regWriters r).contains i.mnemonic = true) :
    writesReg r i = true := by
  cases r with
  | a => simp only [writesReg, Bool.or_eq_true]; exact .inl h
  | x | y => exact h

/-- Memory is as before, or the instruction is one R34 lists and the canonical form is kept. -/
def MemFrame (i : Instr) (s t : State) : Prop :=
  t.mem = s.mem ∨ writesMem i = true ∧ (Memory.wf s.mem = true → Memory.wf t.mem = true)

/-- What an instruction may change between a state and the next, by the lists of R20, R24, R28, R31 and R34. -/
structure Frame (i : Instr) (s t : State) : Prop where
  regs : ∀ r, t.reg r = s.reg r ∨ writesReg r i = true
  sp : t.sp = s.sp ∨ i.mnemonic ∈ spWriters
  flags : s.flag .b2 = true → s.flag .b = false → ∀ f, t.flag f = s.flag f ∨ i.mnemonic ∈ flagWriters f
  mem : MemFrame i s t
  run : RunKept s t ∨ i = .brk

/-- R28 lists the mnemonic as a writer of each of the flags. -/
def writesFlags (flags : List Flag) (m : Mnemonic) : Bool := flags.all fun f => (flagWriters f).contains m

/-- What holds of every row of a table holds of each row. -/
theorem of_row {β : Type} {rows : List β} {x : β} (p : β → Bool) (hx : x ∈ rows) (hrows : rows.all p = true) :
    p x = true :=
  List.all_eq_true.mp hrows x hx

/-- An operation that leaves SP alone keeps to the lists when the registers and flags it writes are listed. -/
theorem KeptBut.frame {i : Instr} {regs : List Reg} {flags : List Flag} {s t : State} (h : KeptBut regs flags s t)
    (hregs : ∀ r ∈ regs, writesReg r i = true) (hflags : writesFlags flags i.mnemonic = true)
    (hmem : MemFrame i s t) : Frame i s t where
  regs r := by
    by_cases hr : r ∈ regs
    · exact .inr (hregs r hr)
    · exact .inl (h.regs r hr)
  sp := .inl h.sp
  flags _ _ f := by
    by_cases hf : f ∈ flags
    · exact .inr (List.contains_iff_mem.mp (List.all_eq_true.mp hflags f hf))
    · exact .inl (h.flags f hf)
  mem := hmem
  run := .inl h.run

theorem writesReg_singleton {i : Instr} {r : Reg} (h : writesReg r i = true) : ∀ r' ∈ [r], writesReg r' i = true := by
  simpa using h

theorem writesMem_of_mnemonic {i : Instr}
    (h : [Mnemonic.sta, .stx, .sty, .inc, .dec, .pha, .php, .jsr, .brk].contains i.mnemonic = true) :
    writesMem i = true := by
  simp only [writesMem, h, Bool.true_or]

theorem writesMem_of_shift {i : Instr} {f : MemForm}
    (hm : [Mnemonic.asl, .lsr, .rol, .ror].contains i.mnemonic = true) (ho : i.operand = .mem f) :
    writesMem i = true := by
  have hformat : i.format ≠ .acc := by rw [Instr.format, ho]; cases f <;> simp [Operand.format, MemForm.format]
  simp only [writesMem, hm, Bool.true_and, Bool.or_eq_true, bne_iff_ne]
  exact .inr hformat

theorem writesReg_of_shift {i : Instr}
    (hm : [Mnemonic.asl, .lsr, .rol, .ror].contains i.mnemonic = true) (ho : i.operand = .acc) :
    writesReg .a i = true := by
  simp only [writesReg, hm, Instr.format, ho, Operand.format, BEq.rfl, Bool.and_self, Bool.or_true]

/-- The status byte PLP and RTI put in P: Break2 and Break stay as the invariant has them (R29 (c)), and both
instructions are among the writers of every other flag. -/
theorem flag_kept_or_writer_of_statusPulled {s t : State} {v : Byte} {m : Mnemonic} (hm : m = .plp ∨ m = .rti)
    (hp : t.p = statusPulled v) (hb2 : s.flag .b2 = true) (hb : s.flag .b = false) (f : Flag) :
    t.flag f = s.flag f ∨ m ∈ flagWriters f := by
  have ht : t.flag f = getFlag f (statusPulled v) := congrArg (getFlag f) hp
  cases f with
  | b2 | b => exact .inl (by simp [ht, hb2, hb])
  | n | v | d | i | z | c => obtain rfl | rfl := hm <;> exact .inr (by decide)

/-- Every kind of instruction keeps to the lists: the operations' effects where they say it, and the rules of the
stack, of PC and of the trap for the others. -/
theorem Shape.frame {i : Instr} {s t : State} (h : Shape s i t) : Frame i s t := by
  cases h with
  | load src hm _ =>
    obtain ⟨-, -, hw, -⟩ := loadReg_effect s _ src
    have hreg := writesReg_of_regWriter (of_row (fun row => (regWriters row.2).contains row.1) hm rfl)
    exact hw.keptBut.frame (writesReg_singleton hreg)
      (of_row (fun row => writesFlags [.z, .n] row.1) hm rfl) (.inl (by simp [loadReg]))
  | store f hm _ =>
    exact (storeReg_keptBut _ f s).frame (by simp) rfl
      (.inr ⟨writesMem_of_mnemonic (of_row (fun row => List.contains _ row.1) hm rfl), State.write_wf _ _⟩)
  | transfer hi =>
    obtain ⟨-, -, hw, -⟩ := transferReg_effect s _ _
    exact hw.keptBut.frame (writesReg_singleton (of_row (fun row => writesReg row.2.1 row.1) hi rfl))
      (of_row (fun row => writesFlags [.z, .n] row.1.mnemonic) hi rfl) (.inl (by simp [transferReg]))
  | add src hm _ =>
    obtain ⟨-, -, -, -, hw, -⟩ := addToA_effect s _ (sourceLength src)
    have hreg := writesReg_of_regWriter (of_row (fun row => (regWriters .a).contains row.1) hm rfl)
    exact hw.keptBut.frame (writesReg_singleton hreg)
      (of_row (fun row => writesFlags [.c, .v, .z, .n] row.1) hm rfl) (.inl (by simp [addToA]))
  | logic src hm _ =>
    obtain ⟨-, -, hw, -⟩ := logicToA_effect s _ src
    have hreg := writesReg_of_regWriter (of_row (fun row => (regWriters .a).contains row.1) hm rfl)
    exact hw.keptBut.frame (writesReg_singleton hreg)
      (of_row (fun row => writesFlags [.z, .n] row.1) hm rfl) (.inl (by simp [logicToA]))
  | bit f hm _ =>
    obtain ⟨-, -, -, hw, -⟩ := bitTest_effect s f
    exact hw.keptBut.frame (by simp) (by rw [hm]; rfl) (.inl (by simp [bitTest]))
  | compare src hm _ =>
    obtain ⟨-, -, -, hw, -⟩ := compareReg_effect s _ src
    exact hw.keptBut.frame (by simp) (of_row (fun row => writesFlags [.c, .z, .n] row.1) hm rfl)
      (.inl (by simp [compareReg]))
  | stepMem f hm _ =>
    exact (addToMem_keptBut _ f s).frame (by simp) (of_row (fun row => writesFlags [.z, .n] row.1) hm rfl)
      (.inr ⟨writesMem_of_mnemonic (of_row (fun row => List.contains _ row.1) hm rfl), State.write_wf _ _⟩)
  | stepReg hi =>
    obtain ⟨-, -, hw, -⟩ := addToReg_effect s _ _
    exact hw.keptBut.frame (writesReg_singleton (of_row (fun row => writesReg row.2.2 row.1) hi rfl))
      (of_row (fun row => writesFlags [.z, .n] row.1.mnemonic) hi rfl) (.inl (by simp [addToReg]))
  | shift pl hm ho =>
    have hshift := of_row (fun row => [Mnemonic.asl, .lsr, .rol, .ror].contains row.1) hm rfl
    have hflags := of_row (fun row => writesFlags [.c, .z, .n] row.1) hm rfl
    cases pl with
    | acc =>
      obtain ⟨-, -, -, hw, -⟩ := shiftAcc_effect s _
      exact hw.keptBut.frame (writesReg_singleton (writesReg_of_shift hshift ho)) hflags
        (.inl (by simp [shiftPlace, placeWrite]))
    | mem f =>
      exact (shiftMem_keptBut _ f s).frame (by simp) hflags
        (.inr ⟨writesMem_of_shift hshift ho, State.write_wf _ _⟩)
  | branch b _ _ =>
    obtain ⟨-, hw⟩ := branchOn_effect s _ _ b
    exact hw.keptBut.frame (by simp) rfl (.inl (by unfold branchOn; split <;> rfl))
  | flag hi =>
    obtain ⟨-, hw, -⟩ := writeFlag_effect s _ _
    exact hw.keptBut.frame (by simp) (of_row (fun row => writesFlags [row.2.1] row.1.mnemonic) hi rfl)
      (.inl (by simp [writeFlag]))
  | jump _ => exact ⟨by simp, by simp, by simp, .inl rfl, by simp [RunKept]⟩
  | nop => exact ⟨by simp, by simp, by simp, .inl rfl, by simp [RunKept]⟩
  | txs => exact ⟨by simp, .inr (by decide), by simp, .inl rfl, by simp [RunKept]⟩
  | jsr w =>
    exact ⟨by simp, .inr (by simp [spWriters, Instr.mnemonic]), by simp, .inr ⟨rfl, State.pushWord_wf _⟩,
      by simp [RunKept]⟩
  | rts => exact ⟨by simp, .inr (by decide), by simp, .inl rfl, by simp [RunKept]⟩
  | push hi =>
    exact ⟨by simp, .inr (List.contains_iff_mem.mp (of_row (fun row => spWriters.contains row.1.mnemonic) hi rfl)),
      by simp, .inr ⟨of_row (fun row => writesMem row.1) hi rfl, State.push_wf _⟩, by simp [RunKept]⟩
  | pla =>
    obtain ⟨-, -, hw, -⟩ := transferReg_effect s.pull.2 .a s.pull.1
    have hf : Frame .pla s.pull.2 (transferReg .a s.pull.1 s.pull.2) :=
      hw.keptBut.frame (writesReg_singleton rfl) rfl (.inl rfl)
    exact ⟨hf.regs, .inr (by decide), hf.flags, .inl rfl, hf.run⟩
  | plp =>
    exact ⟨by simp, .inr (by decide), flag_kept_or_writer_of_statusPulled (.inl rfl) rfl, .inl rfl, by simp [RunKept]⟩
  | rti =>
    exact ⟨by simp, .inr (by decide), flag_kept_or_writer_of_statusPulled (.inr rfl) s.trapReturn_p, .inl rfl,
      by simp [RunKept]⟩
  | brk =>
    refine ⟨by simp, .inr (by decide), fun _ _ f => ?_, .inr ⟨rfl, fun hwf => ?_⟩, .inr rfl⟩
    · by_cases hf : f = .i
      · exact .inr (by rw [hf]; decide)
      · exact .inl (by simp [State.flag, hf])
    · rw [State.haltBreak_mem]
      exact State.trapEntry_wf _ hwf

/-- BRK, which the frame leaves out of the run state's: it halts the unit with its own cause and keeps the record (R224). -/
theorem exec_brk_run {s t : State} (h : exec .brk s = .next t) :
    t.runState = .halted ∧ t.haltCause = .brk ∧ t.faultRecord = s.faultRecord := by
  have ht : (s.trapEntry (s.pc + 2)).haltBreak = t := Host.Outcome.next.inj h
  subst ht
  exact ⟨by simp, by simp, by simp⟩

theorem exec_frame {i : Instr} {s t : State} (h : exec i s = .next t) : Frame i s t := (shape_of_exec h).frame

/-- Settles O10: the flags' part of the frame. -/
theorem flagsChangeOnlyByTheirWriters : Obligations.FlagsChangeOnlyByTheirWriters := by
  unfold Obligations.FlagsChangeOnlyByTheirWriters
  intro i f s t hb2 hb hexec hne
  exact ((exec_frame hexec).flags hb2 hb f).resolve_left hne

/-- Settles O11: the registers' part of the frame. -/
theorem registersChangeOnlyByTheirWriters : Obligations.RegistersChangeOnlyByTheirWriters := by
  unfold Obligations.RegistersChangeOnlyByTheirWriters
  intro i s t hexec
  have hframe := exec_frame hexec
  exact ⟨fun r hne => (hframe.regs r).resolve_left hne, fun hne => hframe.sp.resolve_left hne⟩

/-- Settles O12: memory's part of the frame. -/
theorem memoryChangesOnlyByStores : Obligations.MemoryChangesOnlyByStores := by
  unfold Obligations.MemoryChangesOnlyByStores
  intro i s t hexec hne
  obtain hsame | ⟨hwrites, -⟩ := (exec_frame hexec).mem
  · exact absurd hsame hne
  · exact hwrites

/-- Settles O13: the run state's part of the frame, and BRK. -/
theorem onlyBrkChangesTheRunState : Obligations.OnlyBrkChangesTheRunState := by
  unfold Obligations.OnlyBrkChangesTheRunState
  intro i s t hexec
  refine ⟨fun hi => (exec_frame hexec).run.resolve_right hi, fun hi => ?_⟩
  subst hi
  exact exec_brk_run hexec

/-! ### The invariant (R29, R33, R41) -/

theorem MemFrame.wf {i : Instr} {s t : State} (h : MemFrame i s t) (hs : Memory.wf s.mem = true) :
    Memory.wf t.mem = true := by
  obtain hsame | ⟨-, hwf⟩ := h
  · rw [hsame]; exact hs
  · exact hwf hs

theorem State.Inv.mem_wf {s : State} (h : s.Inv) : Memory.wf s.mem = true := h.1

/-- The invariant is kept where memory stays canonical and the two flags and the run state are as before. -/
theorem State.Inv.of_kept {s t : State} (h : s.Inv) (hmem : Memory.wf t.mem = true) (hb2 : t.flag .b2 = s.flag .b2)
    (hb : t.flag .b = s.flag .b) (hrun : RunKept s t) : t.Inv := by
  obtain ⟨-, hsb2, hsb, hcause, hrecord⟩ := h
  obtain ⟨hrs, hc, hr⟩ := hrun
  exact ⟨hmem, hb2.trans hsb2, hb.trans hsb, by rw [hc, hrs]; exact hcause, by rw [hr, hc]; exact hrecord⟩

/-- A unit that is not Halted has no cause and no record (R33). -/
theorem State.Inv.not_halted {s : State} (h : s.Inv) (hrun : s.runState ≠ .halted) :
    s.haltCause = .none ∧ s.faultRecord = none := by
  obtain ⟨-, -, -, hcause, hrecord⟩ := h
  have hc := hcause.mpr hrun
  refine ⟨hc, Option.not_isSome_iff_eq_none.mp fun hr => ?_⟩
  simpa [hc] using hrecord.mp hr

/-- The invariant where the unit halts with a cause that is no unknown opcode, and so without a record. -/
theorem State.Inv.of_halt {s t : State} (h : s.Inv) (hrun : s.runState ≠ .halted) (hmem : Memory.wf t.mem = true)
    (hb2 : t.flag .b2 = s.flag .b2) (hb : t.flag .b = s.flag .b) (ht : t.runState = .halted)
    (hcause : t.haltCause ≠ .none) (hknown : t.haltCause ≠ .unknownOpcode) (hrecord : t.faultRecord = s.faultRecord) :
    t.Inv := by
  obtain ⟨-, hnone⟩ := h.not_halted hrun
  obtain ⟨-, hsb2, hsb, -, -⟩ := h
  exact ⟨hmem, hb2.trans hsb2, hb.trans hsb, by simp [hcause, ht], by simp [hknown, hrecord, hnone]⟩

theorem State.Inv.startStep {s : State} (h : s.Inv) (hrun : s.runState ≠ .halted) : s.startStep.Inv := by
  obtain ⟨hc, hr⟩ := h.not_halted hrun
  obtain ⟨hmem, hb2, hb, -, -⟩ := h
  exact ⟨hmem, hb2, hb, by simp [hc], by simp [hc, hr]⟩

theorem State.Inv.takeUnknownOpcode {s : State} (h : s.Inv) : s.takeUnknownOpcode.Inv := by
  obtain ⟨hmem, hb2, hb, -, -⟩ := h
  exact ⟨hmem, hb2, hb, by simp, by simp⟩

/-- Every instruction keeps the invariant: by its frame, and BRK by the cause it halts with. -/
theorem State.Inv.exec {i : Instr} {s t : State} (h : s.Inv) (hrun : s.runState ≠ .halted)
    (hexec : exec i s = .next t) : t.Inv := by
  have ⟨hwf, hsb2, hsb, _, _⟩ := h
  obtain ⟨-, -, hflags, hmem, hrunFrame⟩ := exec_frame hexec
  have hb2 : t.flag .b2 = s.flag .b2 := (hflags hsb2 hsb .b2).resolve_right List.not_mem_nil
  have hb : t.flag .b = s.flag .b := (hflags hsb2 hsb .b).resolve_right List.not_mem_nil
  obtain hkept | rfl := hrunFrame
  · exact h.of_kept (hmem.wf hwf) hb2 hb hkept
  · obtain ⟨hhalted, hcause, hrecord⟩ := exec_brk_run hexec
    exact h.of_halt hrun (hmem.wf hwf) hb2 hb hhalted (by simp [hcause]) (by simp [hcause]) hrecord

/-- Settles O14, by what a step answers: it faults, runs an instruction, or takes the fatal decode failure. -/
theorem stepKeepsInvariant : Obligations.StepKeepsInvariant := by
  unfold Obligations.StepKeepsInvariant
  intro s t hinv hstep
  obtain ⟨-, hfault⟩ | ⟨hrun, i, -, hexec⟩ | ⟨hrun, e, -, hnext⟩ := step_cases s
  · rw [hfault] at hstep
    cases hstep
  · exact (hinv.startStep hrun).exec (by simp) (hexec.symm.trans hstep)
  · rw [hnext] at hstep
    cases hstep
    exact (hinv.startStep hrun).takeUnknownOpcode

/-- Settles O15: the fields of the reset state. -/
theorem resetMeetsInvariant : Obligations.ResetMeetsInvariant := by
  unfold Obligations.ResetMeetsInvariant State.Inv
  exact ⟨rfl, rfl, rfl, by decide, by decide⟩

/-! ### The host's moves (R55, R56, R253, R255, R270) -/

theorem State.Inv.write {s : State} (h : s.Inv) (addr : Word) (v : Byte) : (s.write addr v).Inv :=
  h.of_kept (State.write_wf addr v h.mem_wf) rfl rfl ⟨rfl, rfl, rfl⟩

theorem State.Inv.loadBytes {s : State} (h : s.Inv) (bytes : List Byte) (base : Word) :
    (s.loadBytes bytes base).Inv := by
  induction bytes generalizing s base with
  | nil => exact h
  | cons b rest ih => exact ih (h.write base b) (base + 1)

/-- Reset gives every field of the invariant but memory the value the reset state has. -/
theorem State.Inv.hostReset {s : State} (h : s.Inv) : s.hostReset.Inv :=
  State.Inv.of_kept (s := State.reset) resetMeetsInvariant h.mem_wf rfl rfl ⟨rfl, rfl, rfl⟩

theorem State.Inv.hostHalt {s : State} (h : s.Inv) : s.hostHalt.Inv := by
  by_cases hrun : s.runState = .halted
  · simpa [State.hostHalt, hrun] using h
  · have ht : s.hostHalt = { s with runState := .halted, haltCause := .external } := by simp [State.hostHalt, hrun]
    rw [ht]
    exact h.of_halt hrun h.mem_wf rfl rfl rfl (by simp) (by simp) rfl

theorem State.Inv.afterStep {s : State} (h : s.Inv) (terminate : Bool) : (s.afterStep terminate).Inv := by
  cases terminate with
  | false => exact h
  | true => exact h.hostHalt

theorem State.Inv.runWithCallback {s : State} (h : s.Inv) (requests : List Bool) :
    (runWithCallback requests s).1.Inv := by
  induction requests generalizing s with
  | nil => exact h
  | cons q rest ih =>
    by_cases hstep : ∃ t, step s = .next t
    · obtain ⟨t, ht⟩ := hstep
      rw [runWithCallback_next ht]
      exact ih ((stepKeepsInvariant s t h ht).afterStep q)
    · rw [runWithCallback_stop (not_exists.mp hstep)]
      exact h

/-- Settles O16, move by move. -/
theorem hostMovesKeepInvariant : Obligations.HostMovesKeepInvariant := by
  unfold Obligations.HostMovesKeepInvariant
  intro s h
  exact ⟨h.hostReset, h.loadBytes, fun addr w => (h.write addr _).write (addr + 1) _, h.hostHalt, h.runWithCallback⟩

/-! ### Reset and the status register (R27, R38) -/

/-- Settles O57: `hostReset` is the reset state with the memory kept. -/
theorem resetSetsTheStatedValues : Obligations.ResetSetsTheStatedValues := by
  unfold Obligations.ResetSetsTheStatedValues
  exact fun s => ⟨rfl, rfl⟩

/-- Settles O56: `flagBit` lists the eight positions. -/
theorem statusBitPositions : Obligations.StatusBitPositions := by
  unfold Obligations.StatusBitPositions
  exact fun s => ⟨rfl, rfl, rfl, rfl, rfl, rfl, rfl, rfl⟩

/-! ### The canonical form names one memory (R34) -/

/-- A canonical memory lists no address past 0xFFFF. -/
theorem memRead_beyond {lo a : Nat} {m : Memory} (h : memWfFrom lo m = true) (ha : 65536 ≤ a) :
    memRead m a = Config.memInit := by
  induction m generalizing lo with
  | nil => rfl
  | cons cell rest ih =>
    obtain ⟨k, v⟩ := cell
    simp only [memWfFrom, Bool.and_eq_true, decide_eq_true_eq] at h
    obtain ⟨⟨⟨-, hk⟩, -⟩, hrest⟩ := h
    simp [memRead, show ¬ a < k by omega, show a ≠ k by omega, ih hrest]

/-- Settles O20, by `mem_ext`: past 0xFFFF both memories read as nothing written. -/
theorem equalReadsEqualMemory : Obligations.EqualReadsEqualMemory := by
  unfold Obligations.EqualReadsEqualMemory
  intro m m' hm hm' hreads
  refine mem_ext hm hm' fun a => ?_
  by_cases ha : a < 65536
  · simpa [Nat.mod_eq_of_lt ha] using hreads (BitVec.ofNat 16 a)
  · rw [memRead_beyond hm (by omega), memRead_beyond hm' (by omega)]

/-! ### Push and Pull undo each other (R24 to R26, R211 to R214) -/

/-- A Pull from the memory and the SP a Push left answers the byte pushed and the SP before (R26). -/
theorem State.pull_of_push {s t : State} {v : Byte} (h : Memory.wf s.mem = true) (hmem : t.mem = (s.push v).mem)
    (hsp : t.sp = (s.push v).sp) : t.pull.1 = v ∧ t.pull.2.sp = s.sp := by
  have hback : t.sp + 1 = s.sp := by rw [hsp, State.push_sp, sub_add_cancel]
  have hread : t.read (stackAddr s.sp) = (s.push v).read (stackAddr s.sp) := by rw [State.read, hmem]; rfl
  constructor
  · rw [State.pull_byte, hback, hread, State.read_push h, if_pos rfl]
  · rw [State.pull_sp, hback]

/-- Pulling the copy that PHP pushes gives P back, where Break2 is set and Break clear (R29). -/
theorem statusPulled_statusCopy {s : State} (hb2 : s.flag .b2 = true) (hb : s.flag .b = false) :
    statusPulled (statusCopy s.p) = s.p := by
  refine status_ext fun f => ?_
  rw [State.flag] at hb2 hb
  cases f <;> simp [hb2, hb]

/-- Settles O50: what Pull answers after Push, and P from its copy. -/
theorem pushThenPullRestores : Obligations.PushThenPullRestores := by
  unfold Obligations.PushThenPullRestores
  rintro s ⟨hwf, hb2, hb, -, -⟩
  refine ⟨⟨(s.push s.a).advance 1, rfl, fun t hmem hsp => ?_⟩,
    (s.push (statusCopy s.p)).advance 1, rfl, fun t hmem hsp => ?_⟩
  · obtain ⟨hbyte, hback⟩ := State.pull_of_push hwf hmem hsp
    exact ⟨transferReg .a t.pull.1 t.pull.2, rfl, hbyte, hback⟩
  · obtain ⟨hbyte, hback⟩ := State.pull_of_push hwf hmem hsp
    exact ⟨(t.pull.2.setP (statusPulled t.pull.1)).advance 1, rfl,
      (congrArg statusPulled hbyte).trans (statusPulled_statusCopy hb2 hb), hback⟩

/-! ### 256 pushes (R24, R211) -/

/-- The state after PHA, which always completes. -/
def State.afterPha (s : State) : State := (s.push s.a).advance 1

theorem exec_pha (s : State) : exec .pha s = .next s.afterPha := rfl

/-- The state after `k` PHAs. -/
def State.afterPhas (s : State) : Nat → State
  | 0 => s
  | k + 1 => (s.afterPhas k).afterPha

@[simp] theorem State.afterPhas_a (s : State) (k : Nat) : (s.afterPhas k).a = s.a := by
  induction k with
  | zero => rfl
  | succ k ih => simpa [State.afterPhas, State.afterPha] using ih

@[simp] theorem State.afterPhas_sp (s : State) (k : Nat) : (s.afterPhas k).sp = s.sp - BitVec.ofNat 8 k := by
  induction k with
  | zero => simp [State.afterPhas]
  | succ k ih => simp [State.afterPhas, State.afterPha, ih, BitVec.ofNat_add, sub_sub]

theorem State.afterPhas_wf {s : State} (h : Memory.wf s.mem = true) (k : Nat) :
    Memory.wf (s.afterPhas k).mem = true := by
  induction k with
  | zero => exact h
  | succ k ih => exact State.push_wf _ ih

/-- After `k` PHAs the `k` locations from SP down hold A. -/
theorem State.read_afterPhas {s : State} (h : Memory.wf s.mem = true) {j k : Nat} (hj : j < k) :
    (s.afterPhas k).read (stackAddr (s.sp - BitVec.ofNat 8 j)) = s.a := by
  induction k with
  | zero => omega
  | succ k ih =>
    have hlast : ∀ addr, (s.afterPhas (k + 1)).read addr =
        if addr = stackAddr (s.sp - BitVec.ofNat 8 k) then s.a else (s.afterPhas k).read addr := fun addr => by
      rw [← State.afterPhas_sp, ← s.afterPhas_a k]
      exact State.read_push (State.afterPhas_wf h k) _ addr
    obtain rfl | hjk := Nat.eq_or_lt_of_le (Nat.le_of_lt_succ hj)
    · rw [hlast, if_pos rfl]
    · rw [hlast, ih hjk, ite_self]

/-- Every stack location is one of the 256 from a pointer value down. -/
theorem stackSlot_eq_below (sp : Byte) (n : Nat) : ∃ j < 256, stackSlot n = stackAddr (sp - BitVec.ofNat 8 j) := by
  refine ⟨(sp - BitVec.ofNat 8 n).toNat, BitVec.isLt _, ?_⟩
  rw [BitVec.ofNat_toNat, BitVec.setWidth_eq, sub_sub_cancel, stackAddr_eq_slot, BitVec.toNat_ofNat, stackSlot_mod]

/-- Settles O51: the run is `afterPhas`, and its 256 pushes reach every location of the stack page. -/
theorem twoHundredFiftySixPushesWrap : Obligations.TwoHundredFiftySixPushesWrap := by
  unfold Obligations.TwoHundredFiftySixPushesWrap
  intro s h
  refine ⟨s.afterPhas, rfl, fun k _ => exec_pha (s.afterPhas k), by simp, s.afterPhas_a 256, fun n => ?_⟩
  obtain ⟨j, hj, hslot⟩ := stackSlot_eq_below s.sp n
  rw [hslot, State.read_afterPhas h hj]

end Sys2Proof.Machine

/-! Memory and the bus (20_memory.md): the byte and word accesses of R52 to R55, Load (R56), and the history of a step
(R67, R68), played on the memory before it. -/

namespace Sys2Proof.Machine

/-! ### Byte and word accesses (R53 to R55) -/

/-- Settles O17: a write is read back, and it updates no field but memory. -/
theorem readAfterWrite : Obligations.ReadAfterWrite := by
  unfold Obligations.ReadAfterWrite
  exact fun s addr v h => ⟨fun addr' => State.read_write h addr addr' v, rfl⟩

/-- The address `k` bytes on, modulo 65536 (R54, R56), in the two forms the statements and the model use. -/
theorem ofNat_toNat_add (addr : Word) (k : Nat) : BitVec.ofNat 16 (addr.toNat + k) = addr + BitVec.ofNat 16 k := by
  simp [BitVec.ofNat_add]

/-- What memory reads as after `writeWord`: the low byte at the address, the high byte at the next (R55). -/
theorem State.read_writeWord {s : State} (h : Memory.wf s.mem = true) (addr w addr' : Word) :
    (s.writeWord addr w).read addr' =
      if addr' = addr + 1 then highByte w else if addr' = addr then lowByte w else s.read addr' := by
  rw [State.writeWord, State.read_write (State.write_wf _ _ h), State.read_write h]

/-- Settles O18, from what memory reads as after `writeWord`. -/
theorem wordAccessIsLittleEndian : Obligations.WordAccessIsLittleEndian := by
  unfold Obligations.WordAccessIsLittleEndian
  intro s addr w h
  have hread := State.read_writeWord h addr w
  have hlow : (s.writeWord addr w).read addr = lowByte w := by simp [hread]
  have hhigh : (s.writeWord addr w).read (addr + 1) = highByte w := by simp [hread]
  rw [show BitVec.ofNat 16 (addr.toNat + 1) = addr + 1 from ofNat_toNat_add addr 1]
  refine ⟨joinBytes_toNat _ _, ?_, ?_, fun addr' hout => ?_, ?_⟩
  · rw [hlow, lowByte_toNat]
  · rw [hhigh, highByte_toNat]
  · simp only [List.mem_cons, List.not_mem_nil, or_false, not_or] at hout
    obtain ⟨hne, hneNext⟩ := hout
    rw [hread, if_neg hneNext, if_neg hne]
  · rw [State.readWord, hlow, hhigh, joinBytes_high_low]

/-! ### Load (R56, R272) -/

theorem add_one_add_ofNat (base : Word) (k : Nat) : base + 1 + BitVec.ofNat 16 k = base + BitVec.ofNat 16 (k + 1) := by
  rw [BitVec.ofNat_add, add_assoc, add_comm (1 : Word)]
  rfl

/-- The bytes are stored in order, the last one last. -/
theorem State.loadBytes_concat (s : State) (bytes : List Byte) (v : Byte) (base : Word) :
    s.loadBytes (bytes ++ [v]) base = (s.loadBytes bytes base).write (base + BitVec.ofNat 16 bytes.length) v := by
  induction bytes generalizing s base with
  | nil => simp [State.loadBytes]
  | cons b rest ih =>
    rw [List.length_cons, ← add_one_add_ofNat]
    exact ih (s.write base b) (base + 1)

/-- An address at which no byte is loaded reads as before. -/
theorem State.read_loadBytes_outside {s : State} (h : Memory.wf s.mem = true) (bytes : List Byte) (base : Word)
    {addr : Word} (hout : ∀ k < bytes.length, addr ≠ base + BitVec.ofNat 16 k) :
    (s.loadBytes bytes base).read addr = s.read addr := by
  induction bytes generalizing s base with
  | nil => rfl
  | cons b rest ih =>
    have hhead : addr ≠ base := by simpa using hout 0 (Nat.succ_pos _)
    have htail : ∀ k < rest.length, addr ≠ base + 1 + BitVec.ofNat 16 k := fun k hk => by
      rw [add_one_add_ofNat]
      exact hout (k + 1) (Nat.succ_lt_succ hk)
    calc ((s.write base b).loadBytes rest (base + 1)).read addr
        = (s.write base b).read addr := ih (State.write_wf base b h) (base + 1) htail
      _ = s.read addr := by rw [State.read_write h, if_neg hhead]

/-- Where no two bytes of the sequence share an address, byte `k` is at the base plus `k`. -/
theorem State.read_loadBytes {s : State} (h : Memory.wf s.mem = true) {bytes : List Byte} (base : Word)
    (hlen : bytes.length ≤ 65536) {k : Nat} {v : Byte} (hk : bytes[k]? = some v) :
    (s.loadBytes bytes base).read (base + BitVec.ofNat 16 k) = v := by
  induction bytes generalizing s base k with
  | nil => simp at hk
  | cons b rest ih =>
    rw [List.length_cons] at hlen
    cases k with
    | zero =>
      obtain rfl : b = v := by simpa using hk
      have hout : ∀ j < rest.length, base ≠ base + 1 + BitVec.ofNat 16 j := fun j hj heq => by
        rw [add_one_add_ofNat, left_eq_add] at heq
        have hzero : (j + 1) % 65536 = 0 := by simpa using congrArg BitVec.toNat heq
        omega
      have hbase : base + BitVec.ofNat 16 0 = base := by simp
      calc ((s.write base b).loadBytes rest (base + 1)).read (base + BitVec.ofNat 16 0)
          = (s.write base b).read base := by
            rw [hbase, State.read_loadBytes_outside (State.write_wf base b h) rest (base + 1) hout]
        _ = b := by rw [State.read_write h, if_pos rfl]
    | succ k =>
      rw [← add_one_add_ofNat]
      exact ih (State.write_wf base b h) (base + 1) (by omega) hk

/-- Settles O19: inside the range, the order of the writes, outside the range, and the registers. -/
theorem loadCopiesVerbatim : Obligations.LoadCopiesVerbatim := by
  unfold Obligations.LoadCopiesVerbatim
  intro s bytes base h
  simp only [ofNat_toNat_add]
  exact ⟨fun hlen k v => State.read_loadBytes h base hlen, fun v => s.loadBytes_concat bytes v base,
    fun addr => State.read_loadBytes_outside h bytes base, s.loadBytes_regs bytes base, rfl⟩

/-! ### The parts of a history, played (R67, R68) -/

section Replay

variable (s : State)

@[simp] theorem replay_nil (m : Memory) : replay [] m = some m := rfl

@[simp] theorem replay_pointerEvents (o : Operand) : replay (pointerEvents o s) s.mem = some s.mem := by
  unfold pointerEvents
  split <;> simp

@[simp] theorem replay_dataReadEvents (m : Mnemonic) (f : MemForm) :
    replay (dataReadEvents m f s) s.mem = some s.mem := by
  unfold dataReadEvents
  split <;> simp

@[simp] theorem replay_pullEvents (n : Nat) (sp : Byte) : replay (pullEvents s n sp) s.mem = some s.mem := by
  induction n generalizing sp with
  | zero => rfl
  | succ n ih => simp [pullEvents, ih]

/-- The writes of pushing bytes from SP on leave the memory that pushing them leaves (R25). -/
theorem replay_pushEvents (bytes : List Byte) :
    replay (pushEvents bytes s.sp) s.mem = some (bytes.foldl State.push s).mem := by
  induction bytes generalizing s with
  | nil => rfl
  | cons v rest ih => exact ih (s.push v)

/-- The reads of an instruction's own bytes and of its pointer play without effect; the rest is played after them. -/
theorem replay_instrEvents (i : Instr) :
    replay (instrEvents i s) s.mem =
      (replay (dataEvents i.mnemonic i.operand s) s.mem).bind (replay (stackEvents i.mnemonic s)) := by
  simp [instrEvents, replay_append]

end Replay

/-- The mnemonics that write memory in no format (R34). -/
def readsOnly : Mnemonic → Bool
  | .sta | .stx | .sty | .inc | .dec | .asl | .lsr | .rol | .ror | .pha | .php | .jsr | .brk => false
  | _ => true

theorem writesMem_eq_false_of_readsOnly {i : Instr} (h : readsOnly i.mnemonic = true) : writesMem i = false := by
  unfold writesMem
  generalize i.mnemonic = m at h
  cases m with
  | sta | stx | sty | inc | dec | asl | lsr | rol | ror | pha | php | jsr | brk => cases h
  | _ => rfl

theorem dataWritten_of_readsOnly {m : Mnemonic} (h : readsOnly m = true) (f : MemForm) (s : State) :
    dataWritten m f s = none := by
  cases m with
  | sta | stx | sty | inc | dec | asl | lsr | rol | ror => cases h
  | _ => rfl

theorem replay_stackEvents_of_readsOnly {m : Mnemonic} (h : readsOnly m = true) (s : State) :
    replay (stackEvents m s) s.mem = some s.mem := by
  cases m with
  | pha | php | jsr | brk => cases h
  | pla | plp | rts | rti => exact replay_pullEvents s _ _
  | _ => rfl

theorem stackEvents_of_dataWritten {m : Mnemonic} {f : MemForm} {s : State} {v : Byte}
    (h : dataWritten m f s = some v) : stackEvents m s = [] := by
  cases m with
  | pha | php | pla | plp | jsr | rts | rti | brk => cases h
  | _ => rfl

theorem dataWritten_store {m : Mnemonic} {r : Reg}
    (hm : (m, r) ∈ [(Mnemonic.sta, Reg.a), (.stx, .x), (.sty, .y)]) (f : MemForm) (s : State) :
    dataWritten m f s = some (s.reg r) := by
  simp only [List.mem_cons, Prod.mk.injEq, List.not_mem_nil, or_false] at hm
  obtain ⟨rfl, rfl⟩ | ⟨rfl, rfl⟩ | ⟨rfl, rfl⟩ := hm <;> rfl

theorem dataWritten_stepMem {m : Mnemonic} {d : Byte} (hm : (m, d) ∈ [(Mnemonic.inc, (1 : Byte)), (.dec, -1)])
    (f : MemForm) (s : State) : dataWritten m f s = some (memByte f s + d) := by
  simp only [List.mem_cons, Prod.mk.injEq, List.not_mem_nil, or_false] at hm
  obtain ⟨rfl, rfl⟩ | ⟨rfl, rfl⟩ := hm <;> rfl

theorem dataWritten_shift {m : Mnemonic} {op : Byte → Bool → Shifted}
    (hm : (m, op) ∈ [(Mnemonic.asl, aslByte), (.lsr, lsrByte), (.rol, rolByte), (.ror, rorByte)])
    (f : MemForm) (s : State) : dataWritten m f s = some (op (memByte f s) (s.flag .c)).result := by
  simp only [List.mem_cons, Prod.mk.injEq, List.not_mem_nil, or_false] at hm
  obtain ⟨rfl, rfl⟩ | ⟨rfl, rfl⟩ | ⟨rfl, rfl⟩ | ⟨rfl, rfl⟩ := hm <;> rfl

/-! ### The history of an instruction, played -/

section ReplayInstr

variable {i : Instr} {s t : State}

/-- A history of reads alone leaves memory as it was, and so does the instruction (R34). -/
theorem replay_instrEvents_of_readsOnly (h : readsOnly i.mnemonic = true) (hs : Shape s i t) :
    replay (instrEvents i s) s.mem = some t.mem := by
  have hmem : t.mem = s.mem := hs.frame.mem.resolve_right fun hw => by simp [writesMem_eq_false_of_readsOnly h] at hw
  have hdata : replay (dataEvents i.mnemonic i.operand s) s.mem = some s.mem := by
    unfold dataEvents
    split <;> simp [dataWritten_of_readsOnly h]
  rw [replay_instrEvents, hdata, hmem]
  exact replay_stackEvents_of_readsOnly h s

/-- A history with a data write leaves the memory of that write. -/
theorem replay_instrEvents_of_dataWritten {f : MemForm} {v : Byte} (ho : i.operand = .mem f)
    (hv : dataWritten i.mnemonic f s = some v) :
    replay (instrEvents i s) s.mem = some (s.write (memAddr f s) v).mem := by
  have hdata : replay (dataEvents i.mnemonic i.operand s) s.mem = some (s.write (memAddr f s) v).mem := by
    simp [dataEvents, ho, hv, replay_append, replay]
  rw [replay_instrEvents, hdata, stackEvents_of_dataWritten hv]
  rfl

/-- Without a memory operand only the stack's part of the history is left to play. -/
theorem replay_instrEvents_of_no_data (h : dataEvents i.mnemonic i.operand s = []) :
    replay (instrEvents i s) s.mem = replay (stackEvents i.mnemonic s) s.mem := by
  rw [replay_instrEvents, h]
  rfl

/-- After BRK's three pushes the two vector reads find the memory that the pushes left (R68, 6). -/
theorem replay_stackEvents_brk (s : State) :
    replay (stackEvents .brk s) s.mem = some (s.trapEntry (s.pc + 2)).mem := by
  have hpushes : replay (pushEvents (brkFrame s) s.sp) s.mem = some (s.trapEntry (s.pc + 2)).mem :=
    replay_pushEvents s (brkFrame s)
  simp only [stackEvents, replay_append, hpushes, Option.bind_some, replay_readEvent, replay_nil]

/-- The history of every kind of instruction, played, ends in the memory of its next state. -/
theorem Shape.replay_instrEvents (h : Shape s i t) : replay (instrEvents i s) s.mem = some t.mem := by
  have hreads := fun hr => replay_instrEvents_of_readsOnly (i := i) hr h
  cases h with
  | load _ hm | add _ hm | logic _ hm | compare _ hm | branch _ hm =>
    exact hreads (of_row (fun row => readsOnly row.1) hm rfl)
  | transfer hi | stepReg hi | flag hi => exact hreads (of_row (fun row => readsOnly row.1.mnemonic) hi rfl)
  | bit _ hm => exact hreads (by rw [hm]; rfl)
  | jump hi =>
    obtain ⟨w, hi⟩ := hi
    exact hreads (of_row (fun row => readsOnly row.1.mnemonic) hi rfl)
  | txs | nop | pla | plp | rts | rti => exact hreads rfl
  | store f hm ho => exact replay_instrEvents_of_dataWritten ho (dataWritten_store hm f s)
  | stepMem f hm ho => exact replay_instrEvents_of_dataWritten ho (dataWritten_stepMem hm f s)
  | shift pl hm ho =>
    cases pl with
    | mem f => exact replay_instrEvents_of_dataWritten ho (dataWritten_shift hm f s)
    | acc =>
      have hstack := stackEvents_of_dataWritten (dataWritten_shift hm (.zp 0) s)
      rw [replay_instrEvents_of_no_data (by rw [ho]; rfl), hstack]
      rfl
  | push hi =>
    simp only [List.mem_cons, Prod.mk.injEq, List.not_mem_nil, or_false] at hi
    obtain ⟨rfl, rfl⟩ | ⟨rfl, rfl⟩ := hi <;>
      exact (replay_instrEvents_of_no_data rfl).trans (replay_pushEvents s [_])
  | jsr w =>
    exact (replay_instrEvents_of_no_data rfl).trans (replay_pushEvents s [highByte (s.pc + 2), lowByte (s.pc + 2)])
  | brk => exact (replay_instrEvents_of_no_data rfl).trans (replay_stackEvents_brk s)

end ReplayInstr

/-! ### The history of a step -/

section StartStep

variable (s : State)

@[simp] theorem readEvent_startStep (addr : Word) : s.startStep.readEvent addr = s.readEvent addr := rfl

@[simp] theorem fetchEvents_startStep (n : Nat) (addr : Word) :
    s.startStep.fetchEvents n addr = s.fetchEvents n addr := by
  induction n generalizing addr with
  | zero => rfl
  | succ n ih => simp [State.fetchEvents, ih]

@[simp] theorem pointerEvents_startStep (o : Operand) : pointerEvents o s.startStep = pointerEvents o s := by
  unfold pointerEvents
  split <;> rfl

@[simp] theorem dataEvents_startStep (m : Mnemonic) (o : Operand) : dataEvents m o s.startStep = dataEvents m o s := by
  simp [dataEvents, dataReadEvents, dataWritten]

@[simp] theorem stackEvents_startStep (m : Mnemonic) : stackEvents m s.startStep = stackEvents m s := by
  cases m <;> rfl

/-- The history does not depend on the run state, which is all that the beginning of a step changes (R32, R67). -/
@[simp] theorem instrEvents_startStep (i : Instr) : instrEvents i s.startStep = instrEvents i s := by
  simp [instrEvents]

end StartStep

/-- Settles O21: the history of the instruction fetched, or the one read of an unknown byte. -/
theorem stepEventsReplayToNextMemory : Obligations.StepEventsReplayToNextMemory := by
  unfold Obligations.StepEventsReplayToNextMemory
  intro s t _ hstep
  obtain ⟨-, hfault⟩ | ⟨hrun, i, hf, hexec⟩ | ⟨hrun, e, hf, hnext⟩ := step_cases s
  · rw [hfault] at hstep
    cases hstep
  · have hshape : Shape s.startStep i t := shape_of_exec (hexec.symm.trans hstep)
    have hevents : stepEvents s = instrEvents i s.startStep := by simp [stepEvents, hrun, hf]
    rw [hevents]
    exact hshape.replay_instrEvents
  · have hevents : stepEvents s = [s.readEvent s.pc] := by simp [stepEvents, hrun, hf]
    rw [hnext] at hstep
    cases hstep
    simp [hevents]

/-! ### Read-modify-write (R59, R68) -/

theorem wellFormed_eq_true (i : Instr) : i.wellFormed = true := by
  cases i <;> rfl

/-- Only the two indexed indirect formats of a memory operand have pointer bytes (R119, R120). -/
theorem pointerEvents_mem_eq_nil {f : MemForm} (hx : f.format ≠ .indx) (hy : f.format ≠ .indy) (s : State) :
    pointerEvents (.mem f) s = [] := by
  cases f with
  | indx => exact absurd rfl hx
  | indy => exact absurd rfl hy
  | zp | zpx | zpy | abs | absx | absy => rfl

theorem readModifyWrite_formats : ∀ m ∈ [Mnemonic.inc, .dec, .asl, .lsr, .rol, .ror],
    Format.indx ∉ m.formats ∧ Format.indy ∉ m.formats := by
  decide

/-- A memory operand of the six mnemonics has no pointer bytes, since none of them admits an indirect format. -/
theorem pointerEvents_readModifyWrite {i : Instr} {f : MemForm}
    (hm : i.mnemonic ∈ [Mnemonic.inc, .dec, .asl, .lsr, .rol, .ror]) (ho : i.operand = .mem f) (s : State) :
    pointerEvents i.operand s = [] := by
  have hformat : f.format ∈ i.mnemonic.formats := by
    simpa [Instr.wellFormed, admits, Instr.format, ho, Operand.format] using wellFormed_eq_true i
  obtain ⟨hx, hy⟩ := readModifyWrite_formats i.mnemonic hm
  rw [ho]
  exact pointerEvents_mem_eq_nil (ne_of_mem_of_not_mem hformat hx) (ne_of_mem_of_not_mem hformat hy) s

/-- The data part of the six mnemonics' history: one read and one write of `ea` (R68, 4 and 5). -/
theorem dataEvents_readModifyWrite {m : Mnemonic} (hm : m ∈ [Mnemonic.inc, .dec, .asl, .lsr, .rol, .ror])
    (f : MemForm) (s : State) :
    ∃ v, dataEvents m (.mem f) s = [.read (memAddr f s) (s.read (memAddr f s)), .write (memAddr f s) v]
      ∧ dataWritten m f s = some v := by
  simp only [List.mem_cons, List.not_mem_nil, or_false] at hm
  obtain rfl | rfl | rfl | rfl | rfl | rfl := hm <;> exact ⟨_, rfl, rfl⟩

/-- Settles O22: the byte written is the one memory holds afterwards, because the history plays to the next memory. -/
theorem readModifyWriteOneReadOneWrite : Obligations.ReadModifyWriteOneReadOneWrite := by
  unfold Obligations.ReadModifyWriteOneReadOneWrite
  intro i f s t hwf hm ho hexec
  obtain ⟨v, hdata, hv⟩ := dataEvents_readModifyWrite hm f s
  have hreplay : some (s.write (memAddr f s) v).mem = some t.mem :=
    (replay_instrEvents_of_dataWritten ho hv).symm.trans (shape_of_exec hexec).replay_instrEvents
  have hread : t.read (memAddr f s) = v := by
    rw [State.read, ← Option.some.inj hreplay]
    exact (State.read_write hwf (memAddr f s) (memAddr f s) v).trans (if_pos rfl)
  refine ⟨?_, pointerEvents_readModifyWrite hm ho s⟩
  rw [instrEvents, stackEvents_of_dataWritten hv, List.append_nil, ho, hdata, hread]

/-! ### BRK (R68, R224) -/

/-- The trap entry writes the stack page only (R224). -/
theorem State.read_trapEntry_of_ge {s : State} (h : Memory.wf s.mem = true) (ret : Word) {addr : Word}
    (ha : 0x0200 ≤ addr.toNat) : (s.trapEntry ret).read addr = s.read addr := by
  rw [State.read_trapEntry h, if_neg (not_stack_of_ge ha _), if_neg (not_stack_of_ge ha _),
    if_neg (not_stack_of_ge ha _)]

/-- Settles O23: the three slots of the frame, and the vector outside the stack page. -/
theorem brkBusOrder : Obligations.BrkBusOrder := by
  unfold Obligations.BrkBusOrder
  intro s h
  have hlow := State.read_trapEntry_of_ge h (s.pc + 2) (addr := 0xFFFE) (by decide)
  have hhigh := State.read_trapEntry_of_ge h (s.pc + 2) (addr := 0xFFFF) (by decide)
  rw [← stackAddr_eq_slot, ← stackAddr_sub_one, ← stackAddr_sub_two, ← hlow, ← hhigh]
  rfl

end Sys2Proof.Machine

/-! The encoding (30_encoding.md): what a cell of the opcode map makes of the bytes after it, the two directions between
the grid of R87 and the lists of R88 to R92, and the bytes without an entry (R94). -/

namespace Sys2Proof

/-! ### Operand words (R8, R84, R85) -/

@[simp] theorem lowByte_joinBytes (h l : Byte) : lowByte (joinBytes h l) = l :=
  BitVec.extractLsb'_append_eq_right

@[simp] theorem highByte_joinBytes (h l : Byte) : highByte (joinBytes h l) = h :=
  BitVec.extractLsb'_append_eq_left

/-! ### A cell of the opcode map and the decoder (R80 to R85) -/

/-- The cell makes the instruction out of exactly these operand bytes. -/
inductive Cell.Makes : Cell → List Byte → Instr → Prop
  | one (i : Instr) : Makes (.one i) [] i
  | two (mk : Byte → Instr) (b : Byte) : Makes (.two mk) [b] (mk b)
  | three (mk : Word → Instr) (w : Word) : Makes (.three mk) [lowByte w, highByte w] (mk w)

theorem decode_of_makes {op : Byte} {operand : List Byte} {i : Instr} (h : (opcodeCell op).Makes operand i)
    (rest : List Byte) : decode (op :: (operand ++ rest)) = .ok (i, rest) := by
  generalize hc : opcodeCell op = c at h
  cases h <;> simp [decode, hc, Machine.joinBytes_high_low]

theorem makes_of_decode {op : Byte} {bytes rest : List Byte} {i : Instr} (h : decode (op :: bytes) = .ok (i, rest)) :
    ∃ operand, (opcodeCell op).Makes operand i ∧ bytes = operand ++ rest := by
  unfold decode at h
  dsimp only at h
  split at h <;> cases h
  next hc => exact ⟨[], hc ▸ .one i, rfl⟩
  next mk b hc => exact ⟨[b], hc ▸ .two mk b, rfl⟩
  next mk lo hi hc => exact ⟨[lo, hi], by simpa [hc] using Cell.Makes.three mk (joinBytes hi lo), rfl⟩

theorem decode_eq_unknownOpcode_iff (op : Byte) (rest : List Byte) :
    decode (op :: rest) = .error (.unknownOpcode op) ↔ opcodeCell op = .unknown := by
  unfold decode
  dsimp only
  split <;> simp [*]

/-! ### The grid of R87 and the lists of R88 to R92 -/

/-- An instruction stands in the grid at the opcode its list names, and its operand bytes make it there. Its opcode
has to be a numeral before the grid is read; the constructor is then the length of the instruction. -/
theorem opcodeCell_opcode_makes (i : Instr) : (opcodeCell i.opcode).Makes i.operand.bytes i := by
  cases i <;> dsimp only [Instr.opcode] <;> constructor

/-- What the grid makes at an instruction's opcode is listed under that opcode, with those operand bytes: the
operand may differ from the instruction's, the constructor cannot. -/
theorem encode_of_makes_opcode (j : Instr) {operand : List Byte} {i : Instr}
    (h : (opcodeCell j.opcode).Makes operand i) : encode i = j.opcode :: operand := by
  cases j <;> dsimp only [Instr.opcode] at h <;> cases h <;> rfl

/-- The instruction of a cell with its operand zero; none where the map has no entry. -/
def Cell.sample : Cell → Option Instr
  | .unknown => none
  | .one i => some i
  | .two mk => some (mk 0)
  | .three mk => some (mk 0)

theorem Cell.sample_eq_none_iff (c : Cell) : c.sample = none ↔ c = .unknown := by
  cases c <;> simp [Cell.sample]

theorem Cell.Makes.exists_sample {c : Cell} {operand : List Byte} {i : Instr} (h : c.Makes operand i) :
    ∃ j, c.sample = some j := by
  cases h <;> exact ⟨_, rfl⟩

/-- Every entry of the grid is an instruction its list names with the byte of that entry. -/
theorem opcode_of_sample : ∀ op : Byte, ∀ i ∈ (opcodeCell op).sample, i.opcode = op := by
  decide

theorem encode_of_makes {op : Byte} {operand : List Byte} {i : Instr} (h : (opcodeCell op).Makes operand i) :
    encode i = op :: operand := by
  obtain ⟨j, hj⟩ := h.exists_sample
  obtain rfl := opcode_of_sample op j hj
  exact encode_of_makes_opcode j h

theorem decode_encode_append (i : Instr) (rest : List Byte) : decode (encode i ++ rest) = .ok (i, rest) :=
  decode_of_makes (opcodeCell_opcode_makes i) rest

theorem decode_encode (i : Instr) : decode (encode i) = .ok (i, []) := by
  simpa using decode_encode_append i []

/-- Settles O1: the cell at an instruction's opcode makes it of its operand bytes. -/
theorem encodeThenDecode : Obligations.EncodeThenDecode := by
  unfold Obligations.EncodeThenDecode
  intro i rest _
  exact decode_encode_append i rest

/-- Settles O2: the decoder reads a cell's operand bytes, and a cell makes only what is listed under its byte. -/
theorem decodeThenEncode : Obligations.DecodeThenEncode := by
  unfold Obligations.DecodeThenEncode
  intro bytes i rest h
  cases bytes with
  | nil => cases h
  | cons op bytes =>
    obtain ⟨operand, hmakes, rfl⟩ := makes_of_decode h
    rw [encode_of_makes hmakes, List.cons_append]

/-- Rows that pair an instruction with its encoding decode to it. -/
theorem decode_of_encoding_rows {rows : List (List Byte × Instr)}
    (hrows : rows.all (fun row => row.1 == encode row.2) = true) :
    ∀ bytes i, (bytes, i) ∈ rows → decode bytes = .ok (i, []) := by
  intro bytes i hmem
  have hbytes : bytes = encode i := eq_of_beq (List.all_eq_true.mp hrows _ hmem)
  rw [hbytes, decode_encode]

/-- Settles O3: the thirteen byte sequences are the encodings of their instructions. -/
theorem specBytesDecode : Obligations.SpecBytesDecode := by
  unfold Obligations.SpecBytesDecode
  exact decode_of_encoding_rows (by decide)

end Sys2Proof

namespace Sys2Proof.Machine

/-! ### Unknown opcode bytes (R94, R241) -/

/-- R94 lists, in rising order, the bytes whose cell of the grid is empty. -/
theorem unknownOpcodeBytes_eq_filter :
    unknownOpcodeBytes = ((List.range 256).map (BitVec.ofNat 8)).filter (fun op => (opcodeCell op).sample.isNone) := by
  decide

theorem mem_unknownOpcodeBytes_iff (op : Byte) : op ∈ unknownOpcodeBytes ↔ opcodeCell op = .unknown := by
  have hop : op ∈ (List.range 256).map (BitVec.ofNat 8) :=
    List.mem_map.mpr ⟨op.toNat, List.mem_range.mpr op.isLt, BitVec.ofNat_toNat 8 op⟩
  rw [unknownOpcodeBytes_eq_filter, List.mem_filter, Option.isNone_iff_eq_none, Cell.sample_eq_none_iff,
    and_iff_right hop]

theorem decode_eq_unknownOpcode_iff_mem (op : Byte) (rest : List Byte) :
    decode (op :: rest) = .error (.unknownOpcode op) ↔ op ∈ unknownOpcodeBytes := by
  rw [decode_eq_unknownOpcode_iff, mem_unknownOpcodeBytes_iff]

theorem State.fetch_of_unknown {s : State} (h : s.read s.pc ∈ unknownOpcodeBytes) :
    s.fetch = .error (.unknownOpcode (s.read s.pc)) := by
  have hdecode : decode s.instrBytes = .error (.unknownOpcode (s.read s.pc)) :=
    (decode_eq_unknownOpcode_iff_mem ..).mpr h
  simp [State.fetch, hdecode]

theorem step_of_unknown {s : State} (hrun : s.runState ≠ .halted) (h : s.read s.pc ∈ unknownOpcodeBytes) :
    step s = .next s.startStep.takeUnknownOpcode := by
  simp [step, hrun, State.fetch_of_unknown h]

/-- Settles O4: the listed bytes are the empty cells of the grid, where the decoder reads no further byte; as operand
bytes they are decoded by O1's lemma, which holds of every operand. -/
theorem unknownBytesRefused : Obligations.UnknownBytesRefused := by
  unfold Obligations.UnknownBytesRefused
  refine ⟨decode_eq_unknownOpcode_iff_mem, rfl, ?step, ?operand⟩
  case step =>
    intro s hrun h
    exact ⟨_, step_of_unknown hrun h, rfl, rfl⟩
  case operand =>
    intro _ i _ _
    exact decode_encode i

end Sys2Proof.Machine

/-! Addressing (40_addressing.md): the effective address of each memory format and its page-crossing indication (R113 to
R123), the operand byte M (R124), and the two jumps, whose operand is an address (R121, R199, R200). -/

namespace Sys2Proof.Machine

/-! ### Indexed addresses and page crossings (R113 to R118, R123) -/

theorem add_zext16_toNat (w : Word) (index : Byte) : (w + zext16 index).toNat = (w.toNat + index.toNat) % 65536 := by
  rw [BitVec.toNat_add, zext16_toNat]

theorem pageCrossed_eq (f : MemForm) (s : State) :
    pageCrossed f s = decide ((memAddr f s).toNat / 256 ≠ (memBase f s).toNat / 256) := by
  simp only [pageCrossed, bne, beq_eq_decide, ← highByte_toNat, BitVec.toNat_inj, ne_eq, decide_not]

/-- A format whose index, if any, goes into the base crosses no page (R123). -/
theorem pageCrossed_of_addr_eq_base {f : MemForm} {s : State} (h : memAddr f s = memBase f s) :
    pageCrossed f s = false := by
  rw [pageCrossed, h, bne_self_eq_false]

theorem eq_ldx_or_stx_of_admits_zpy {m : Mnemonic} (h : admits m .zpy = true) : m = .ldx ∨ m = .stx := by
  cases m <;> simp [admits, Mnemonic.formats] at h ⊢

/-- Settles O24: the sum of bytes is taken before it is widened, so it stays in the zero page. -/
theorem zeroPageAddresses : Obligations.ZeroPageAddresses := by
  unfold Obligations.ZeroPageAddresses
  intro s b
  have hindexed (index : Byte) : (zext16 (b + index)).toNat = (b.toNat + index.toNat) % 256 := by
    rw [zext16_toNat, BitVec.toNat_add]
  exact ⟨zext16_toNat b, hindexed s.x, hindexed s.y, pageCrossed_of_addr_eq_base rfl, pageCrossed_of_addr_eq_base rfl,
    pageCrossed_of_addr_eq_base rfl, fun _ => eq_ldx_or_stx_of_admits_zpy⟩

/-- Settles O25: the sum with the widened index wraps at 65536, and the base is the operand word. -/
theorem absoluteAddresses : Obligations.AbsoluteAddresses := by
  unfold Obligations.AbsoluteAddresses
  intro s w
  have hx : (memAddr (.absx w) s).toNat = (w.toNat + s.x.toNat) % 65536 := add_zext16_toNat w s.x
  have hy : (memAddr (.absy w) s).toNat = (w.toNat + s.y.toNat) % 65536 := add_zext16_toNat w s.y
  refine ⟨rfl, hx, hy, pageCrossed_of_addr_eq_base rfl, ?crossX, ?crossY, rfl⟩
  case crossX => rw [pageCrossed_eq, hx, memBase]
  case crossY => rw [pageCrossed_eq, hy, memBase]

/-! ### Pointers (R119 to R121) -/

/-- Both bytes of a zero-page pointer are at addresses modulo 256 (R119, R120, D12). -/
theorem State.zpPointer_eq (s : State) {p : Byte} {n : Nat} (h : p.toNat = n % 256) :
    s.zpPointer p = joinBytes (s.read (zpSlot (n + 1))) (s.read (zpSlot n)) := by
  have hnext : (p + 1).toNat = (n + 1) % 256 := by simp [BitVec.toNat_add, h]
  rw [State.zpPointer, zext16_eq_slot p n h, zext16_eq_slot (p + 1) (n + 1) hnext]

/-- The second byte of the pointer of IND is in the page of the first (R121). -/
theorem State.indPointer_eq (s : State) (w : Word) :
    s.indPointer w =
      joinBytes (s.read (BitVec.ofNat 16 (w.toNat / 256 * 256 + (w.toNat + 1) % 256))) (s.read w) := by
  rw [State.indPointer, same_page_next]

/-- Settles O26: the index is added to the pointer's address in INDX and to the pointer in INDY. -/
theorem indirectAddresses : Obligations.IndirectAddresses := by
  unfold Obligations.IndirectAddresses
  intro s b
  have hx : s.zpPointer (b + s.x) = _ := s.zpPointer_eq (BitVec.toNat_add b s.x)
  have hy : s.zpPointer b = _ := s.zpPointer_eq (Nat.mod_eq_of_lt b.isLt).symm
  refine ⟨?addrX, ?addrY, pageCrossed_of_addr_eq_base rfl, ?crossY⟩
  case addrX => rw [memAddr, memBase, hx, joinBytes_toNat]
  case addrY => rw [memAddr, add_zext16_toNat, memBase, hy, joinBytes_toNat]
  case crossY => rw [pageCrossed_eq, ← highByte_toNat (memBase _ _), memBase, hy, highByte_joinBytes]

/-! ### The operand byte (R111, R112, R124) -/

/-- Settles O27: the resolver and the operand byte by their definitions, format by format. -/
theorem operandByteIsOneRead : Obligations.OperandByteIsOneRead := by
  unfold Obligations.OperandByteIsOneRead
  intro s b f
  exact ⟨rfl, rfl, rfl, rfl, rfl, rfl, rfl⟩

/-! ### Jumps (R121, R199, R200) -/

theorem State.setPC_onlyWrites (s : State) (w : Word) : OnlyWrites [] [] s (s.setPC w) :=
  onlyWrites_of (fun r _ => s.reg_setPC w r) rfl (fun _ _ => rfl) rfl ⟨rfl, rfl, rfl⟩

theorem eq_jmp_of_admits_ind {m : Mnemonic} (h : admits m .ind = true) : m = .jmp := by
  cases m <;> simp [admits, Mnemonic.formats] at h ⊢

/-- Settles O44: both jumps set PC alone, the indirect one to the word its pointer names. -/
theorem jumpsSetPc : Obligations.JumpsSetPc := by
  unfold Obligations.JumpsSetPc
  intro s w
  refine ⟨rfl, rfl, rfl, ⟨s.setPC (s.indPointer w), rfl, ?target, rfl, s.setPC_onlyWrites _⟩,
    fun _ => eq_jmp_of_admits_ind⟩
  case target => rw [State.setPC_pc, State.indPointer_eq, joinBytes_toNat]

end Sys2Proof.Machine

/-! Loads, stores and register transfers (41_load_store_transfer.md): every row of a family's table runs the family's
operation, and the operation's effect lemma says what the next state is (R131 to R142). -/

namespace Sys2Proof.Machine

/-! ### The rows of a family's table -/

/-- A row of an opcode byte, an instruction and parameters: the instruction has that opcode byte, and its next state is
what the family's operation makes of the parameters. -/
def RowRuns {α : Type} (next : α → State) (s : State) (row : Byte × Instr × α) : Prop :=
  row.2.1.opcode = row.1 ∧ exec row.2.1 s = .next (next row.2.2)

theorem opcode_and_exec_of_row {α : Type} {next : α → State} {s : State} {rows : List (Byte × Instr × α)} {op : Byte}
    {i : Instr} {x : α} (hrow : (op, i, x) ∈ rows) (hrows : rows.Forall (RowRuns next s)) :
    i.opcode = op ∧ exec i s = .next (next x) :=
  List.forall_iff_forall_mem.mp hrows (op, i, x) hrow

/-! ### Loads (R131 to R133) -/

/-- Settles O28: each of the eighteen rows runs `loadReg` on its register and its source. -/
theorem loadsWriteRegisterAndZN : Obligations.LoadsWriteRegisterAndZN := by
  unfold Obligations.LoadsWriteRegisterAndZN
  intro b w s op i r src hrow
  obtain ⟨hop, hexec⟩ := opcode_and_exec_of_row (next := fun x => loadReg x.1 x.2 s) (s := s) hrow
    (by simp only [List.Forall]; and_intros <;> rfl)
  exact ⟨hop, loadReg r src s, hexec, loadReg_effect s r src⟩

/-! ### Stores (R134 to R136) -/

/-- Settles O29: each of the thirteen rows runs `storeReg`, whose one write a canonical memory reads back. -/
theorem storesWriteOneByte : Obligations.StoresWriteOneByte := by
  unfold Obligations.StoresWriteOneByte
  intro b w s op i r f hwf hrow
  obtain ⟨hop, hexec⟩ := opcode_and_exec_of_row (next := fun x => storeReg x.1 x.2 s) (s := s) hrow
    (by simp only [List.Forall]; and_intros <;> rfl)
  exact ⟨hop, storeReg r f s, hexec, storeReg_effect r f hwf⟩

/-! ### Transfers (R137 to R142) -/

/-- Settles O30: five rows run `transferReg`; TXS writes SP alone and sets no flag. -/
theorem transfersCopyAndSetZN : Obligations.TransfersCopyAndSetZN := by
  unfold Obligations.TransfersCopyAndSetZN
  refine ⟨?copies, rfl, ?txs⟩
  case copies =>
    intro s op i r v hrow
    obtain ⟨hop, hexec⟩ := opcode_and_exec_of_row (next := fun x => transferReg x.1 x.2 s) (s := s) hrow
      (by simp only [List.Forall]; and_intros <;> rfl)
    exact ⟨hop, transferReg r v s, hexec, transferReg_effect s r v⟩
  case txs =>
    intro s
    have hregs : RegsKeptBut [] s ((s.setSP s.x).advance 1) := fun r _ => by simp
    exact ⟨_, rfl, rfl, hregs, fun _ _ => rfl, fun _ _ => rfl, ⟨rfl, rfl, rfl⟩, pcPast_advance s 1 rfl⟩

end Sys2Proof.Machine

/-! Arithmetic and logic (42_arithmetic_logic.md): the adder of R151, what it makes of the complement of M (R154), and
the rows of each family, which run the family's operation (R152 to R168). -/

namespace Sys2Proof.Machine

/-! ### The adder (R150, R151) -/

theorem and_0x80_ne_zero_iff (v : Byte) : v &&& 0x80 ≠ 0 ↔ v.msb = true := by
  have hmask : v &&& 0x80 = if v.msb then 0x80 else 0 := by
    rw [BitVec.msb_eq_getLsbD_last]
    exact BitVec.and_twoPow v 7
  rw [hmask]
  cases v.msb <;> simp

theorem add8_result_toNat (a m : Byte) (c : Bool) :
    (add8 a m c).result.toNat = (a.toNat + m.toNat + c.toNat) % 256 :=
  BitVec.toNat_ofNat _ 8

theorem add8_overflow_eq_bits (a m : Byte) (c : Bool) :
    (add8 a m c).overflow =
      decide ((a ^^^ (add8 a m c).result) &&& (m ^^^ (add8 a m c).result) &&& 0x80 ≠ 0) := by
  simp [add8, bne, beq_eq_decide]

/-- The bit formula of R151 compares sign bits. -/
theorem add8_overflow_eq_msb (a m : Byte) (c : Bool) :
    (add8 a m c).overflow = decide (a.msb = m.msb ∧ (add8 a m c).result.msb ≠ a.msb) := by
  rw [add8_overflow_eq_bits]
  simp only [and_0x80_ne_zero_iff, BitVec.msb_and, BitVec.msb_xor]
  cases a.msb <;> cases m.msb <;> cases (add8 a m c).result.msb <;> rfl

/-- The sign of a narrowed sum is wrong exactly when the signed sum is out of range (R151). -/
theorem add8_overflow_eq_signed (a m : Byte) (c : Bool) :
    (add8 a m c).overflow =
      decide (signed a + signed m + c.toNat < -128 ∨ signed a + signed m + c.toNat > 127) := by
  have ha : a.toNat < 256 := a.isLt
  have hm : m.toNat < 256 := m.isLt
  have hc : c.toNat ≤ 1 := c.toNat_le
  rw [add8_overflow_eq_msb, decide_eq_decide]
  simp only [byte_msb, add8_result_toNat, decide_eq_decide, ne_eq, signed]
  split <;> split <;> omega

/-- Settles O31: the bit formula compares sign bits, and that comparison says that the signed sum is out of range. -/
theorem adderIsExact : Obligations.AdderIsExact := by
  unfold Obligations.AdderIsExact
  intro a m c
  exact ⟨add8_result_toNat a m c, rfl, add8_overflow_eq_bits a m c, add8_overflow_eq_msb a m c,
    add8_overflow_eq_signed a m c⟩

/-! ### ADC and SBC (R152 to R154) -/

/-- Settles O32: each of the eight rows adds M to A. -/
theorem adcAddsWithCarry : Obligations.AdcAddsWithCarry := by
  unfold Obligations.AdcAddsWithCarry
  intro b w s op i src hrow
  obtain ⟨hop, hexec⟩ := opcode_and_exec_of_row
    (next := fun src => addToA (sourceByte src s) (sourceLength src) s) (s := s) hrow
    (by simp only [List.Forall]; and_intros <;> rfl)
  obtain ⟨ha, hc, hv, hframe⟩ := addToA_effect s (sourceByte src s) (sourceLength src)
  refine ⟨hop, _, hexec, ?sum, hc, ?overflow, hframe⟩
  case sum => rw [ha, add8_result_toNat]
  case overflow => rw [hv, add8_overflow_eq_signed]

theorem signed_complement (m : Byte) : signed (~~~ m) = -1 - signed m := by
  have hm : m.toNat < 256 := m.isLt
  simp only [signed, BitVec.toNat_not]
  split <;> split <;> omega

section Subtract

variable (a m : Byte) (c : Bool)

/-- Adding the complement subtracts, and one more where the carry is clear (R154). -/
theorem add8_complement_result :
    ((add8 a (~~~ m) c).result.toNat : Int) = ((a.toNat : Int) - m.toNat - (1 - c.toNat)) % 256 := by
  have hm : m.toNat < 256 := m.isLt
  rw [add8_result_toNat, BitVec.toNat_not]
  omega

/-- The carry out of a subtraction is the absence of a borrow (R154, D25). -/
theorem add8_complement_carry :
    (add8 a (~~~ m) c).carry = decide (m.toNat + (1 - c.toNat) ≤ a.toNat) := by
  have hm : m.toNat < 256 := m.isLt
  have hc : c.toNat ≤ 1 := c.toNat_le
  simp only [add8, BitVec.toNat_not, decide_eq_decide]
  omega

theorem add8_complement_overflow :
    (add8 a (~~~ m) c).overflow =
      decide (signed a - signed m - (1 - c.toNat) < -128 ∨ 127 < signed a - signed m - (1 - c.toNat)) := by
  rw [add8_overflow_eq_signed, signed_complement, decide_eq_decide]
  omega

end Subtract

/-- Settles O33: each of the eight rows adds the complement of M to A, which subtracts. -/
theorem sbcSubtractsWithBorrow : Obligations.SbcSubtractsWithBorrow := by
  unfold Obligations.SbcSubtractsWithBorrow
  intro b w s op i src hrow
  obtain ⟨hop, hexec⟩ := opcode_and_exec_of_row
    (next := fun src => addToA (~~~ sourceByte src s) (sourceLength src) s) (s := s) hrow
    (by simp only [List.Forall]; and_intros <;> rfl)
  obtain ⟨ha, hc, hv, hframe⟩ := addToA_effect s (~~~ sourceByte src s) (sourceLength src)
  refine ⟨hop, _, hexec, ?difference, ?carry, ?overflow, hframe⟩
  case difference => rw [ha, add8_complement_result]
  case carry => rw [hc, add8_complement_carry]
  case overflow => rw [hv, add8_complement_overflow]

/-! ### Decimal mode does not exist (R153) -/

/-- What ADC and SBC add to A (R152, R154). -/
def addend (m : Mnemonic) (src : Source) (s : State) : Byte :=
  if m = .sbc then ~~~ sourceByte src s else sourceByte src s

theorem sourceOperand_injective : Function.Injective sourceOperand := by
  intro src src' h
  cases src <;> cases src' <;> cases h <;> rfl

/-- Where no row of a kind's table is an ADC or an SBC, the kind's instruction is neither. -/
theorem not_add_of_row {β : Type} {rows : List β} {x : β} (mnemonic : β → Mnemonic) (hx : x ∈ rows)
    (hrows : rows.all (fun row => !([Mnemonic.adc, .sbc].contains (mnemonic row))) = true) :
    mnemonic x ∉ [Mnemonic.adc, .sbc] := by
  simpa using of_row _ hx hrows

/-- The next state of an ADC or an SBC is the adder's: no other kind of instruction holds one. -/
theorem Shape.eq_addToA {i : Instr} {s t : State} (h : Shape s i t) (hi : i.mnemonic ∈ [Mnemonic.adc, .sbc]) :
    ∃ src, i.operand = sourceOperand src ∧ t = addToA (addend i.mnemonic src s) (sourceLength src) s := by
  cases h with
  | add src hm ho =>
    refine ⟨src, ho, ?_⟩
    simp only [List.mem_cons, Prod.mk.injEq, List.not_mem_nil, or_false] at hm
    obtain ⟨hm, rfl⟩ | ⟨hm, rfl⟩ := hm <;> simp [addend, hm]
  | load _ hm _ | store _ hm _ | logic _ hm _ | compare _ hm _ | stepMem _ hm _ | shift _ hm _ | branch _ hm _ =>
    exact absurd hi (not_add_of_row Prod.fst hm rfl)
  | transfer hm | stepReg hm | push hm | flag hm =>
    exact absurd hi (not_add_of_row (fun row => row.1.mnemonic) hm rfl)
  | jump hw =>
    obtain ⟨_, hm⟩ := hw
    exact absurd hi (not_add_of_row (fun row => row.1.mnemonic) hm rfl)
  | bit _ hm _ => simp [hm] at hi
  | txs | jsr | rts | pla | plp | nop | brk | rti => simp [Instr.mnemonic] at hi

@[simp] theorem memAddr_setP (f : MemForm) (s : State) (p : Byte) : memAddr f (s.setP p) = memAddr f s := by
  cases f <;> rfl

@[simp] theorem sourceByte_setP (src : Source) (s : State) (p : Byte) :
    sourceByte src (s.setP p) = sourceByte src s := by
  cases src <;> simp [sourceByte, memByte]

theorem addend_setP (m : Mnemonic) (src : Source) (s : State) (p : Byte) :
    addend m src (s.setP p) = addend m src s := by
  simp [addend]

/-- Settles O34: the addend and the carry going in do not depend on D, and no other flag's new value does. -/
theorem decimalFlagIsInert : Obligations.DecimalFlagIsInert := by
  unfold Obligations.DecimalFlagIsInert
  intro i s t u hi ht hu
  obtain ⟨src, ho, rfl⟩ := (shape_of_exec ht).eq_addToA hi
  obtain ⟨src', ho', rfl⟩ := (shape_of_exec hu).eq_addToA hi
  obtain rfl : src = src' := sourceOperand_injective (ho.symm.trans ho')
  have hc : (s.setP (setFlag .d (!s.flag .d) s.p)).flag .c = s.flag .c := by simp [State.flag]
  rw [addend_setP, addToA, addToA, hc]
  exact ⟨by simp, fun f hf => by simp [State.flag, hf]⟩

/-! ### AND, ORA, EOR (R155 to R157) -/

/-- The operation on bytes of the three logic mnemonics. -/
def logicByteOp : Mnemonic → Byte → Byte → Byte
  | .ora => (· ||| ·)
  | .eor => (· ^^^ ·)
  | _ => (· &&& ·)

/-- The operation on bits of the three logic mnemonics. -/
def logicBitOp : Mnemonic → Bool → Bool → Bool
  | .ora => or
  | .eor => xor
  | _ => and

theorem logicByteOp_getLsbD (n : Mnemonic) (a m : Byte) (k : Nat) :
    (logicByteOp n a m).getLsbD k = logicBitOp n (a.getLsbD k) (m.getLsbD k) := by
  cases n with
  | ora => exact BitVec.getLsbD_or
  | eor => exact BitVec.getLsbD_xor
  | _ => exact BitVec.getLsbD_and

/-- A row of an opcode byte, an instruction, an operation on bits and a source: the instruction has that opcode byte,
its mnemonic has that operation, and its next state is what `logicToA` makes of the operation on bytes. -/
def LogicRow (s : State) : Byte × Instr × (Bool → Bool → Bool) × Source → Prop
  | (op, i, g, src) =>
    i.opcode = op ∧ g = logicBitOp i.mnemonic ∧ exec i s = .next (logicToA (logicByteOp i.mnemonic) src s)

/-- Settles O35: each of the twenty-four rows runs the operation of its mnemonic, bit by bit. -/
theorem logicIsBitwise : Obligations.LogicIsBitwise := by
  unfold Obligations.LogicIsBitwise
  intro b w s op i g src hrow
  have hruns : LogicRow s (op, i, g, src) :=
    List.forall_iff_forall_mem.mp (by simp only [List.Forall]; and_intros <;> rfl) _ hrow
  obtain ⟨hop, rfl, hexec⟩ := hruns
  obtain ⟨ha, hframe⟩ := logicToA_effect s (logicByteOp i.mnemonic) src
  refine ⟨hop, _, hexec, fun k _ => ?_, hframe⟩
  rw [ha, logicByteOp_getLsbD]

/-! ### BIT and the compares (R158 to R162) -/

/-- Settles O36: both rows run `bitTest`. -/
theorem bitTestsMemory : Obligations.BitTestsMemory := by
  unfold Obligations.BitTestsMemory
  intro b w s op i f hrow
  obtain ⟨hop, hexec⟩ := opcode_and_exec_of_row (next := fun f => bitTest f s) (s := s) hrow
    (by simp only [List.Forall]; and_intros <;> rfl)
  obtain ⟨hz, hn, hv, hframe⟩ := bitTest_effect s f
  exact ⟨hop, bitTest f s, hexec, hz.trans (beq_eq_decide _ _), hn.trans (BitVec.msb_eq_getLsbD_last _), hv, hframe⟩

theorem byte_beq (r m : Byte) : (r == m) = decide (r.toNat = m.toNat) := by
  rw [beq_eq_decide, decide_eq_decide, BitVec.toNat_inj]

theorem byte_sub_msb (r m : Byte) : (r - m).msb = decide (128 ≤ (r.toNat + 256 - m.toNat) % 256) := by
  have hm : m.toNat < 256 := m.isLt
  rw [byte_msb, BitVec.toNat_sub, decide_eq_decide]
  omega

/-- Settles O37: each of the fourteen rows runs `compareReg`. -/
theorem comparesSetCZN : Obligations.ComparesSetCZN := by
  unfold Obligations.ComparesSetCZN
  intro b w s op i r src hrow
  obtain ⟨hop, hexec⟩ := opcode_and_exec_of_row (next := fun x => compareReg x.1 x.2 s) (s := s) hrow
    (by simp only [List.Forall]; and_intros <;> rfl)
  obtain ⟨hc, hz, hn, hframe⟩ := compareReg_effect s r src
  exact ⟨hop, compareReg r src s, hexec, hc, hz.trans (byte_beq _ _), hn.trans (byte_sub_msb _ _), hframe⟩

/-! ### Increment and decrement (R163 to R168) -/

theorem byte_add_ofNat_toNat (v : Byte) (d : Nat) : (v + BitVec.ofNat 8 d).toNat = (v.toNat + d) % 256 := by
  simp [BitVec.toNat_add]

/-- Settles O38: each of the eight rows runs `addToMem`; DEC adds 255. -/
theorem memoryIncrementDecrement : Obligations.MemoryIncrementDecrement := by
  unfold Obligations.MemoryIncrementDecrement
  intro b w s op i d f hwf hrow
  obtain ⟨hop, hexec⟩ := opcode_and_exec_of_row (next := fun x => addToMem (BitVec.ofNat 8 x.1) x.2 s) (s := s) hrow
    (by simp only [List.Forall]; and_intros <;> rfl)
  obtain ⟨hv, hzn, hframe⟩ := addToMem_effect (BitVec.ofNat 8 d) f hwf
  refine ⟨hop, _, hexec, ?byte, ?zn, hframe⟩
  case byte => rw [hv, byte_add_ofNat_toNat, memByte]
  case zn => rw [hv]; exact hzn

/-- Settles O39: each of the four rows runs `addToReg`; DEX and DEY add 255. -/
theorem registerIncrementDecrement : Obligations.RegisterIncrementDecrement := by
  unfold Obligations.RegisterIncrementDecrement
  intro s op i r d hrow
  obtain ⟨hop, hexec⟩ := opcode_and_exec_of_row (next := fun x => addToReg (BitVec.ofNat 8 x.2) x.1 s) (s := s) hrow
    (by simp only [List.Forall]; and_intros <;> rfl)
  obtain ⟨hv, hzn, hframe⟩ := addToReg_effect s (BitVec.ofNat 8 d) r
  refine ⟨hop, _, hexec, ?register, ?zn, hframe⟩
  case register => rw [hv, byte_add_ofNat_toNat]
  case zn => rw [hv]; exact hzn

end Sys2Proof.Machine

/-! Shifts and rotates (43_shift_rotate.md): the one-bit operations as numbers, the twenty rows, which run `shiftPlace`
on A or on the byte at `ea` (R180 to R184), and the rotates as turns of a ring of nine bits. -/

namespace Sys2Proof.Machine

/-! ### The one-bit operations as numbers (R181 to R184) -/

/-- A carry that goes in at a clear bit adds that bit's weight. -/
theorem or_carryBit_toNat {v : Byte} {k : Nat} (hk : k < 8) (hclear : v.getLsbD k = false) (c : Bool) :
    (v ||| (if c then BitVec.twoPow 8 k else 0)).toNat = v.toNat + 2 ^ k * c.toNat := by
  cases c with
  | false => simp
  | true =>
    have hdisjoint : v &&& BitVec.twoPow 8 k = 0 := by rw [BitVec.and_twoPow, hclear]; rfl
    rw [if_pos rfl, ← BitVec.add_eq_or_of_and_eq_zero _ _ hdisjoint, BitVec.toNat_add_of_and_eq_zero hdisjoint,
      BitVec.toNat_twoPow_of_lt hk, Bool.toNat_true, Nat.mul_one]

theorem shiftLeft_one_toNat (v : Byte) : (v <<< 1).toNat = 2 * v.toNat % 256 := by
  rw [BitVec.toNat_shiftLeft, Nat.shiftLeft_eq, Nat.mul_comm]

theorem shiftRight_one_toNat (v : Byte) : (v >>> 1).toNat = v.toNat / 2 := by
  rw [BitVec.toNat_ushiftRight, Nat.shiftRight_eq_div_pow]

theorem rolByte_result_toNat (v : Byte) (c : Bool) : (rolByte v c).result.toNat = 2 * v.toNat % 256 + c.toNat := by
  have h := or_carryBit_toNat (v := v <<< 1) (k := 0) (by decide) (by simp) c
  rw [shiftLeft_one_toNat, Nat.pow_zero, Nat.one_mul] at h
  exact h

theorem rorByte_result_toNat (v : Byte) (c : Bool) : (rorByte v c).result.toNat = v.toNat / 2 + 128 * c.toNat := by
  have h := or_carryBit_toNat (v := v >>> 1) (k := 7) (by decide) (by simp) c
  rw [shiftRight_one_toNat] at h
  exact h

theorem bit0 (v : Byte) : v.getLsbD 0 = decide (v.toNat % 2 = 1) := by
  rw [BitVec.getLsbD, Nat.testBit_zero]

/-! ### The four mnemonics (R180) -/

/-- The operation on a byte and the carry of the four shift mnemonics. -/
def shiftByteOp : Mnemonic → Byte → Bool → Shifted
  | .lsr => lsrByte
  | .rol => rolByte
  | .ror => rorByte
  | _ => aslByte

/-- The result of the four shift mnemonics as a number. -/
def shiftResult : Mnemonic → Nat → Nat → Nat
  | .lsr => fun v _ => v / 2
  | .rol => fun v c => 2 * v % 256 + c
  | .ror => fun v c => v / 2 + 128 * c
  | _ => fun v _ => 2 * v % 256

/-- The bit that the four shift mnemonics shift out. -/
def shiftOut : Mnemonic → Nat → Bool
  | .lsr | .ror => fun v => decide (v % 2 = 1)
  | _ => fun v => decide (128 ≤ v)

theorem shiftByteOp_result_toNat (n : Mnemonic) (v : Byte) (c : Bool) :
    (shiftByteOp n v c).result.toNat = shiftResult n v.toNat c.toNat := by
  cases n with
  | lsr => exact shiftRight_one_toNat v
  | rol => exact rolByte_result_toNat v c
  | ror => exact rorByte_result_toNat v c
  | _ => exact shiftLeft_one_toNat v

theorem shiftByteOp_out (n : Mnemonic) (v : Byte) (c : Bool) : (shiftByteOp n v c).out = shiftOut n v.toNat := by
  cases n with
  | lsr | ror => exact bit0 v
  | _ => exact bit7 v

/-! ### The rows (R180 to R184) -/

/-- A row of an opcode byte, an instruction, a result, a bit shifted out and a place: the instruction has that opcode
byte, its mnemonic has that result and that bit, and its next state is what `shiftPlace` makes of the place. -/
def ShiftRow (s : State) : Byte × Instr × (Nat → Nat → Nat) × (Nat → Bool) × Place → Prop
  | (op, i, res, out, pl) =>
    i.opcode = op ∧ res = shiftResult i.mnemonic ∧ out = shiftOut i.mnemonic
      ∧ exec i s = .next (shiftPlace (shiftByteOp i.mnemonic) pl s)

/-- Settles O40: each of the four rows runs the operation of its mnemonic on A. -/
theorem accumulatorShifts : Obligations.AccumulatorShifts := by
  unfold Obligations.AccumulatorShifts
  intro s op i res out hrow
  have hruns : ShiftRow s (op, i, res, out, .acc) :=
    (List.forall_iff_forall_mem (p := fun (op, i, res, out) => ShiftRow s (op, i, res, out, .acc))).mp
      (by simp only [List.Forall]; and_intros <;> rfl) _ hrow
  obtain ⟨hop, rfl, rfl, hexec⟩ := hruns
  obtain ⟨ha, hc, hframe⟩ := shiftAcc_effect s (shiftByteOp i.mnemonic)
  refine ⟨hop, _, hexec, ?result, ?carry, hframe⟩
  case result => rw [ha, shiftByteOp_result_toNat]
  case carry => rw [hc, shiftByteOp_out]

/-- Settles O41: each of the sixteen rows runs the operation of its mnemonic on the byte at `ea`. -/
theorem memoryShifts : Obligations.MemoryShifts := by
  unfold Obligations.MemoryShifts
  intro b w s op i res out f hwf hrow
  have hruns : ShiftRow s (op, i, res, out, .mem f) :=
    (List.forall_iff_forall_mem (p := fun (op, i, res, out, f) => ShiftRow s (op, i, res, out, .mem f))).mp
      (by simp only [List.Forall]; and_intros <;> rfl) _ hrow
  obtain ⟨hop, rfl, rfl, hexec⟩ := hruns
  obtain ⟨hv, hc, hzn, hframe⟩ := shiftMem_effect (shiftByteOp i.mnemonic) f hwf
  refine ⟨hop, _, hexec, ?byte, ?carry, ?zn, hframe⟩
  case byte => rw [hv, shiftByteOp_result_toNat, memByte]
  case carry => rw [hc, shiftByteOp_out, memByte]
  case zn => rw [hv]; exact hzn

/-! ### The ring of nine bits (R183, R184) -/

/-- An operation on a byte and a carry, as a step of the two. -/
def Shifted.after (op : Byte → Bool → Shifted) (r : Shifted) : Shifted := op r.result r.out

/-- The ring the rotates turn: the eight bits of the byte, then the carry. -/
def Shifted.ringBit (r : Shifted) (k : Fin 9) : Bool := if k = 8 then r.out else r.result.getLsbD k

theorem Shifted.ringBit_injective : Function.Injective Shifted.ringBit := by
  intro r r' h
  have hout : r.out = r'.out := congrFun h 8
  have hresult : r.result = r'.result := BitVec.eq_of_getLsbD_eq fun k hk => by
    have hbit := congrFun h (Fin.castSucc ⟨k, hk⟩)
    have hk8 : Fin.castSucc ⟨k, hk⟩ ≠ 8 := (Fin.castSucc_lt_last _).ne
    simpa only [Shifted.ringBit, if_neg hk8, Fin.val_castSucc] using hbit
  exact congrArg₂ Shifted.mk hresult hout

/-- ROL moves every bit of the ring one place up; the carry, at place 8, goes to place 0. -/
theorem ringBit_rolByte (r : Shifted) (k : Fin 9) : (r.after rolByte).ringBit k = r.ringBit (k - 1) := by
  have hwrap : (-1 : Fin 9) = 8 := rfl
  simp only [Shifted.ringBit, Shifted.after, rolByte]
  cases r.out <;> fin_cases k <;> simp [hwrap]

/-- ROR moves every bit of the ring one place down; the bit at place 0 goes to place 8, the carry. -/
theorem ringBit_rorByte (r : Shifted) (k : Fin 9) : (r.after rorByte).ringBit k = r.ringBit (k + 1) := by
  simp only [Shifted.ringBit, Shifted.after, rorByte]
  cases r.out <;> fin_cases k <;> simp

theorem rorByte_after_rolByte : Function.LeftInverse (Shifted.after rorByte) (Shifted.after rolByte) := fun r =>
  Shifted.ringBit_injective (funext fun k => by rw [ringBit_rorByte, ringBit_rolByte, add_sub_cancel_right])

theorem rolByte_after_rorByte : Function.LeftInverse (Shifted.after rolByte) (Shifted.after rorByte) := fun r =>
  Shifted.ringBit_injective (funext fun k => by rw [ringBit_rolByte, ringBit_rorByte, sub_add_cancel])

theorem ringBit_iterate_rolByte (n : Nat) (r : Shifted) (k : Fin 9) :
    ((Shifted.after rolByte)^[n] r).ringBit k = r.ringBit (k - n • 1) := by
  induction n generalizing k with
  | zero => simp
  | succ n ih => rw [Function.iterate_succ_apply', ringBit_rolByte, ih, sub_sub, succ_nsmul']

theorem rolByte_iterate_nine : (Shifted.after rolByte)^[9] = id :=
  funext fun r => Shifted.ringBit_injective (funext fun k => by
    rw [ringBit_iterate_rolByte, show 9 • (1 : Fin 9) = 0 from rfl, sub_zero, id])

/-- Nine RORs undo nine ROLs, which change nothing. -/
theorem rorByte_iterate_nine : (Shifted.after rorByte)^[9] = id := by
  have hinverse := (rorByte_after_rolByte.iterate 9).comp_eq_id
  rwa [rolByte_iterate_nine] at hinverse

/-! ### The rotates of A turn the ring of A and C (R183, R184) -/

/-- A and C, which a rotate of A turns. -/
def State.accCarry (s : State) : Shifted := { result := s.a, out := s.flag .c }

theorem accCarry_shiftPlace (op : Byte → Bool → Shifted) :
    Function.Semiconj State.accCarry (shiftPlace op .acc) (Shifted.after op) := fun s => by
  obtain ⟨ha, hc, -⟩ := shiftAcc_effect s op
  rw [State.accCarry, ha, hc]; rfl

theorem a_and_carry_of_accCarry {s t : State} (h : t.accCarry = s.accCarry) : t.a = s.a ∧ t.flag .c = s.flag .c :=
  Shifted.mk.inj h

/-- Nine runs of an instruction that turns A and C by `op` restore both, where nine turns by `op` change nothing. -/
theorem a_and_carry_of_nine_runs {i : Instr} {op : Byte → Bool → Shifted}
    (hexec : ∀ s, exec i s = .next (shiftPlace op .acc s)) (hnine : (Shifted.after op)^[9] = id) (s : State) :
    ∃ run : Nat → State, run 0 = s ∧ (∀ k, k < 9 → exec i (run k) = .next (run (k + 1)))
      ∧ (run 9).a = s.a ∧ (run 9).flag .c = s.flag .c := by
  refine ⟨fun k => (shiftPlace op .acc)^[k] s, rfl, fun k _ => ?step, a_and_carry_of_accCarry ?restored⟩
  case step => rw [hexec, ← Function.iterate_succ_apply' (shiftPlace op .acc)]
  case restored => rw [(accCarry_shiftPlace op).iterate_right 9 s, hnine, id]

theorem shiftPlace_restores {op op' : Byte → Bool → Shifted}
    (h : Function.LeftInverse (Shifted.after op') (Shifted.after op)) (s : State) :
    (shiftPlace op' .acc (shiftPlace op .acc s)).accCarry = s.accCarry := by
  rw [accCarry_shiftPlace, accCarry_shiftPlace, h]

/-- Settles O42: ROL and ROR turn a ring of nine bits by one place, in opposite directions. -/
theorem nineRotatesRestore : Obligations.NineRotatesRestore := by
  unfold Obligations.NineRotatesRestore
  refine ⟨?nineRuns, ?undo, fun v c => ⟨congrFun rolByte_iterate_nine _, congrFun rorByte_iterate_nine _⟩⟩
  case nineRuns =>
    intro s i hi
    simp only [List.mem_cons, List.not_mem_nil, or_false] at hi
    obtain rfl | rfl := hi
    · exact a_and_carry_of_nine_runs (fun _ => rfl) rolByte_iterate_nine s
    · exact a_and_carry_of_nine_runs (fun _ => rfl) rorByte_iterate_nine s
  case undo =>
    intro s i j hij
    simp only [List.mem_cons, Prod.mk.injEq, List.not_mem_nil, or_false] at hij
    obtain ⟨rfl, rfl⟩ | ⟨rfl, rfl⟩ := hij
    · exact ⟨_, _, rfl, rfl, a_and_carry_of_accCarry (shiftPlace_restores rorByte_after_rolByte s)⟩
    · exact ⟨_, _, rfl, rfl, a_and_carry_of_accCarry (shiftPlace_restores rolByte_after_rorByte s)⟩

end Sys2Proof.Machine

/-! Control transfer (44_control_transfer.md): the eight branches (R190 to R198), and call and return, which undo each
other because a word pushed on the stack is the word pulled from it (R201 to R203). -/

namespace Sys2Proof.Machine

/-! ### Branches (R190 to R198) -/

/-- Settles O43: each of the eight rows runs `branchOn` on its flag and the value the flag must have. -/
theorem branchesTestOneFlag : Obligations.BranchesTestOneFlag := by
  unfold Obligations.BranchesTestOneFlag
  intro b s op i f required hrow
  obtain ⟨hop, hexec⟩ := opcode_and_exec_of_row (next := fun x => branchOn x.1 x.2 b s) (s := s) hrow
    (by simp only [List.Forall]; and_intros <;> rfl)
  exact ⟨hop, branchOn f required b s, hexec, branchOn_effect s f required b⟩

/-! ### A word on the stack (R24 to R26, R201, R202) -/

theorem stackAddr_ne_sub_one (sp : Byte) : stackAddr sp ≠ stackAddr (sp - 1) := by
  rw [stackAddr_eq_slot, stackAddr_sub_one, ne_eq, stackSlot_inj]
  omega

theorem State.read_pushWord_high {s : State} (h : Memory.wf s.mem = true) (w : Word) :
    (s.pushWord w).read (stackAddr s.sp) = highByte w := by
  rw [State.read_pushWord h, if_neg (stackAddr_ne_sub_one s.sp), if_pos rfl]

theorem State.read_pushWord_low {s : State} (h : Memory.wf s.mem = true) (w : Word) :
    (s.pushWord w).read (stackAddr (s.sp - 1)) = lowByte w := by
  rw [State.read_pushWord h, if_pos rfl]

theorem State.pushWord_memKeptBut {s : State} (h : Memory.wf s.mem = true) (w : Word) :
    MemKeptBut [stackAddr s.sp, stackAddr (s.sp - 1)] s (s.pushWord w) := fun addr haddr => by
  obtain ⟨hhigh, hlow⟩ : addr ≠ stackAddr s.sp ∧ addr ≠ stackAddr (s.sp - 1) := by simpa using haddr
  rw [State.read_pushWord h, if_neg hlow, if_neg hhigh]

/-- The word pulled from the memory and the SP that a pushed word left is that word, and SP is what it was. -/
theorem State.pullWord_of_pushWord {s t : State} {w : Word} (h : Memory.wf s.mem = true)
    (hmem : t.mem = (s.pushWord w).mem) (hsp : t.sp = (s.pushWord w).sp) :
    t.pullWord.1 = w ∧ t.pullWord.2.sp = s.sp := by
  have hlow : t.sp + 1 = s.sp - 1 := by rw [hsp, State.pushWord_sp, sub_add_cancel]
  have hhigh : t.sp + 1 + 1 = s.sp := by rw [hlow, sub_add_cancel]
  have hread (addr : Word) : t.read addr = (s.pushWord w).read addr := by rw [State.read, hmem]; rfl
  constructor
  · rw [State.pullWord_word, hhigh, hlow, hread, hread, State.read_pushWord_high h, State.read_pushWord_low h,
      joinBytes_high_low]
  · rw [State.pullWord_sp, hhigh]

/-! ### Call and return (R201 to R203) -/

theorem RunKept.trans {s t u : State} (h : RunKept s t) (h' : RunKept t u) : RunKept s u := by
  obtain ⟨hrun, hcause, hrecord⟩ := h
  obtain ⟨hrun', hcause', hrecord'⟩ := h'
  exact ⟨hrun'.trans hrun, hcause'.trans hcause, hrecord'.trans hrecord⟩

/-- The state after JSR to `w`, which always completes. -/
def State.afterJsr (s : State) (w : Word) : State := (s.pushWord (s.pc + 2)).setPC w

theorem exec_jsr (w : Word) (s : State) : exec (.jsr w) s = .next (s.afterJsr w) := rfl

@[simp] theorem State.reg_afterJsr (s : State) (w : Word) (r : Reg) : (s.afterJsr w).reg r = s.reg r := by
  simp [State.afterJsr]

@[simp] theorem State.flag_afterJsr (s : State) (w : Word) (f : Flag) : (s.afterJsr w).flag f = s.flag f := by
  simp [State.afterJsr]

theorem State.afterJsr_runKept (s : State) (w : Word) : RunKept s (s.afterJsr w) := by
  simp [RunKept, State.afterJsr]

/-- The state after RTS, which always completes. -/
def State.afterRts (s : State) : State := s.pullWord.2.setPC (s.pullWord.1 + 1)

theorem exec_rts (s : State) : exec .rts s = .next s.afterRts := rfl

@[simp] theorem State.reg_afterRts (s : State) (r : Reg) : s.afterRts.reg r = s.reg r := by
  simp [State.afterRts]

@[simp] theorem State.flag_afterRts (s : State) (f : Flag) : s.afterRts.flag f = s.flag f := by
  simp [State.afterRts]

theorem State.afterRts_runKept (s : State) : RunKept s s.afterRts := by
  simp [RunKept, State.afterRts]

/-- Settles O45: JSR pushes the word `a + 2`, whose bytes stand in two distinct slots, and sets PC. -/
theorem jsrPushesReturnAddress : Obligations.JsrPushesReturnAddress := by
  unfold Obligations.JsrPushesReturnAddress
  intro s w h
  have hret : (s.pc + 2).toNat = (s.pc.toNat + 2) % 65536 := BitVec.toNat_add s.pc 2
  have hhigh : (s.afterJsr w).read (stackAddr s.sp) = highByte (s.pc + 2) := State.read_pushWord_high h _
  have hlow : (s.afterJsr w).read (stackAddr (s.sp - 1)) = lowByte (s.pc + 2) := State.read_pushWord_low h _
  have hsp : (s.afterJsr w).sp = s.sp - 1 - 1 := State.pushWord_sp s _
  rw [← stackAddr_eq_slot, ← stackAddr_sub_one]
  refine ⟨rfl, s.afterJsr w, exec_jsr w s, rfl, ?sp, ?high, ?low, State.pushWord_memKeptBut h _,
    fun r _ => s.reg_afterJsr w r, fun f _ => s.flag_afterJsr w f, s.afterJsr_runKept w⟩
  case sp => rw [hsp]; bv_omega
  case high => rw [hhigh, highByte_toNat, hret]
  case low => rw [hlow, lowByte_toNat, hret]

/-- Settles O46: RTS pulls a word and sets PC to the word plus one. -/
theorem rtsPullsAndAddsOne : Obligations.RtsPullsAndAddsOne := by
  unfold Obligations.RtsPullsAndAddsOne
  intro s
  have hpc : s.afterRts.pc = joinBytes (s.read (stackAddr (s.sp + 1 + 1))) (s.read (stackAddr (s.sp + 1))) + 1 := rfl
  have hsp : s.afterRts.sp = s.sp + 1 + 1 := State.pullWord_sp s
  refine ⟨rfl, s.afterRts, exec_rts s, ?pc, ?sp, fun r _ => s.reg_afterRts r, fun f _ => s.flag_afterRts f,
    fun _ _ => rfl, s.afterRts_runKept⟩
  case pc =>
    rw [hpc, BitVec.toNat_add, joinBytes_toNat, stackAddr_add_two, stackAddr_add_one]
    rfl
  case sp => rw [hsp]; bv_omega

/-- Settles O47: RTS pulls the word that JSR pushed, `a + 2`, and goes on one further, past the three bytes of JSR. -/
theorem callThenReturnResumes : Obligations.CallThenReturnResumes := by
  unfold Obligations.CallThenReturnResumes
  intro s w h
  obtain ⟨hword, hsp⟩ : (s.afterJsr w).pullWord.1 = s.pc + 2 ∧ (s.afterJsr w).pullWord.2.sp = s.sp :=
    State.pullWord_of_pushWord h rfl rfl
  have hpc : (s.afterJsr w).afterRts.pc = s.pc + 3 := by
    rw [State.afterRts, State.setPC_pc, hword, add_assoc]
    rfl
  exact ⟨s.afterJsr w, (s.afterJsr w).afterRts, exec_jsr w s, rfl, exec_rts _, pcPast_advance s 3 hpc, hsp,
    fun r _ => by simp, fun f _ => by simp, (s.afterJsr_runKept w).trans (s.afterJsr w).afterRts_runKept⟩

end Sys2Proof.Machine

/-! Stack, flag and system instructions (45_stack_flags_system.md): Push and Pull of one byte and of the status (R211 to
R214), the flag instructions (R210, R215 to R221), NOP (R223), and the trap's entry and return (R224, R225). -/

namespace Sys2Proof.Machine

/-! ### One byte pushed and pulled (R25, R26, R211 to R213) -/

theorem State.push_memKeptBut {s : State} (h : Memory.wf s.mem = true) (v : Byte) :
    MemKeptBut [stackAddr s.sp] s (s.push v) := fun addr haddr => by
  rw [State.read_push h, if_neg (by simpa using haddr)]

/-- What PHA and PHP do with the byte they push. -/
theorem push_advance_effect {s : State} (h : Memory.wf s.mem = true) (v : Byte) :
    ((s.push v).advance 1).read (stackSlot s.sp.toNat) = v
      ∧ ((s.push v).advance 1).sp.toNat = (s.sp.toNat + 255) % 256
      ∧ MemKeptBut [stackSlot s.sp.toNat] s ((s.push v).advance 1) ∧ RegsKeptBut [] s ((s.push v).advance 1)
      ∧ FlagsKeptBut [] s ((s.push v).advance 1) ∧ RunKept s ((s.push v).advance 1)
      ∧ PcPast 1 s ((s.push v).advance 1) := by
  rw [← stackAddr_eq_slot]
  refine ⟨?byte, ?sp, State.push_memKeptBut h v, fun r _ => by simp, fun f _ => rfl, ⟨rfl, rfl, rfl⟩,
    pcPast_advance s 1 rfl⟩
  case byte => rw [State.read_advance, State.read_push h, if_pos rfl]
  case sp => rw [State.advance_sp, State.push_sp]; bv_omega

/-- Settles O48: PHA pushes A, and PLA is a transfer to A of the byte pulled. -/
theorem phaPlaMoveOneByte : Obligations.PhaPlaMoveOneByte := by
  unfold Obligations.PhaPlaMoveOneByte
  intro s h
  refine ⟨⟨rfl, s.afterPha, exec_pha s, push_advance_effect h s.a⟩, rfl, transferReg .a s.pull.1 s.pull.2, rfl, ?pla⟩
  obtain ⟨ha, hzn, ⟨hregs, -, hflags, hmem, hrun⟩, hpc⟩ := transferReg_effect s.pull.2 .a s.pull.1
  rw [← stackAddr_add_one]
  exact ⟨ha, byte_add_ofNat_toNat s.sp 1, hzn, hregs, hflags, hmem, hrun, hpc⟩

/-! ### The status pulled (R29 (c), R214, R225) -/

/-- The flags of a state whose P is a pulled byte. -/
theorem flags_of_statusPulled {t : State} {v : Byte} (hp : t.p = statusPulled v) :
    t.flag .b2 = true ∧ t.flag .b = false ∧ ∀ f, f ≠ .b2 → f ≠ .b → t.flag f = getFlag f v := by
  have ht (f : Flag) : t.flag f = getFlag f (statusPulled v) := congrArg (getFlag f) hp
  exact ⟨by simp [ht], by simp [ht], fun f hb2 hb => by simp [ht, hb2, hb]⟩

/-- Settles O49: PHP pushes `statusCopy` of P, and PLP puts `statusPulled` of the byte pulled in P. -/
theorem phpPlpMoveStatus : Obligations.PhpPlpMoveStatus := by
  unfold Obligations.PhpPlpMoveStatus
  intro s h
  obtain ⟨hbyte, hsp, hmem, hregs, -, hrun, hpc⟩ := push_advance_effect h (statusCopy s.p)
  obtain ⟨hb2, hb, hflags⟩ := flags_of_statusPulled
    (t := (s.pull.2.setP (statusPulled s.pull.1)).advance 1) (v := s.pull.1) rfl
  rw [← stackAddr_add_one]
  exact ⟨⟨rfl, _, rfl, hbyte, hsp, rfl, hmem, hregs, hrun, hpc⟩,
    rfl, _, rfl, byte_add_ofNat_toNat s.sp 1, hb2, hb, hflags, fun r _ => by simp, fun _ _ => rfl, ⟨rfl, rfl, rfl⟩,
    pcPast_advance s 1 rfl⟩

/-! ### One flag (R210, R215 to R221) -/

/-- Settles O52: each of the seven rows runs `writeFlag` on its flag and value. -/
theorem flagInstructionsWriteOneFlag : Obligations.FlagInstructionsWriteOneFlag := by
  unfold Obligations.FlagInstructionsWriteOneFlag
  intro s op i f v hrow
  obtain ⟨hop, hexec⟩ := opcode_and_exec_of_row (next := fun x => writeFlag x.1 x.2 s) (s := s) hrow
    (by simp only [List.Forall]; and_intros <;> rfl)
  exact ⟨hop, writeFlag f v s, hexec, writeFlag_effect s f v⟩

/-! ### NOP (R223) -/

/-- Settles O53: NOP only advances PC, and of its history only the opcode read is not empty. -/
theorem nopChangesOnlyPc : Obligations.NopChangesOnlyPc := by
  unfold Obligations.NopChangesOnlyPc
  intro s
  rw [ofNat_toNat_add]
  exact ⟨rfl, rfl, rfl⟩

/-! ### Trap entry (R224, R247) -/

theorem stackAddr_ne_sub_two (sp : Byte) : stackAddr sp ≠ stackAddr (sp - 1 - 1) := by
  rw [stackAddr_eq_slot, stackAddr_sub_two, ne_eq, stackSlot_inj]
  omega

theorem State.read_trapEntry_high {s : State} (h : Memory.wf s.mem = true) (ret : Word) :
    (s.trapEntry ret).read (stackAddr s.sp) = highByte ret := by
  rw [State.read_trapEntry h, if_neg (stackAddr_ne_sub_two s.sp), if_neg (stackAddr_ne_sub_one s.sp), if_pos rfl]

theorem State.read_trapEntry_low {s : State} (h : Memory.wf s.mem = true) (ret : Word) :
    (s.trapEntry ret).read (stackAddr (s.sp - 1)) = lowByte ret := by
  rw [State.read_trapEntry h, if_neg (stackAddr_ne_sub_one (s.sp - 1)), if_pos rfl]

theorem State.read_trapEntry_status {s : State} (h : Memory.wf s.mem = true) (ret : Word) :
    (s.trapEntry ret).read (stackAddr (s.sp - 1 - 1)) = statusCopy s.p := by
  rw [State.read_trapEntry h, if_pos rfl]

theorem State.trapEntry_memKeptBut {s : State} (h : Memory.wf s.mem = true) (ret : Word) :
    MemKeptBut [stackAddr s.sp, stackAddr (s.sp - 1), stackAddr (s.sp - 1 - 1)] s (s.trapEntry ret) :=
  fun addr haddr => by
    obtain ⟨hhigh, hlow, hstatus⟩ :
        addr ≠ stackAddr s.sp ∧ addr ≠ stackAddr (s.sp - 1) ∧ addr ≠ stackAddr (s.sp - 1 - 1) := by simpa using haddr
    rw [State.read_trapEntry h, if_neg hstatus, if_neg hlow, if_neg hhigh]

/-- The vector is outside the stack page, so the three pushes do not reach it (R224, D7). -/
theorem State.trapEntry_pc_eq_vector {s : State} (h : Memory.wf s.mem = true) (ret : Word) :
    (s.trapEntry ret).pc = joinBytes (s.read 0xFFFF) (s.read 0xFFFE) := by
  have hhigh : (s.trapEntry ret).read 0xFFFF = s.read 0xFFFF := State.read_trapEntry_of_ge h ret (by decide)
  have hlow : (s.trapEntry ret).read 0xFFFE = s.read 0xFFFE := State.read_trapEntry_of_ge h ret (by decide)
  rw [← hhigh, ← hlow]
  rfl

@[simp] theorem State.flag_trapEntry (s : State) (ret : Word) (f : Flag) :
    (s.trapEntry ret).flag f = if f = .i then true else s.flag f :=
  getFlag_setFlag f .i true s.p

/-- The state after BRK, which always completes. -/
def State.afterBrk (s : State) : State := (s.trapEntry (s.pc + 2)).haltBreak

theorem exec_brk (s : State) : exec .brk s = .next s.afterBrk := rfl

theorem State.read_afterBrk (s : State) (addr : Word) :
    s.afterBrk.read addr = (s.trapEntry (s.pc + 2)).read addr := rfl

theorem State.afterBrk_sp (s : State) : s.afterBrk.sp = s.sp - 1 - 1 - 1 := by
  simp [State.afterBrk]

theorem State.afterBrk_pc (s : State) : s.afterBrk.pc = (s.trapEntry (s.pc + 2)).pc := rfl

theorem State.reg_afterBrk (s : State) (r : Reg) : s.afterBrk.reg r = s.reg r := by
  simp [State.afterBrk]

theorem State.flag_afterBrk (s : State) (f : Flag) : s.afterBrk.flag f = if f = .i then true else s.flag f := by
  simp [State.afterBrk]

/-- Settles O54: the trap entry with `a + 2` as its return value, and the halt. -/
theorem brkSavesVectorsAndHalts : Obligations.BrkSavesVectorsAndHalts := by
  unfold Obligations.BrkSavesVectorsAndHalts
  intro s h
  have hret : (s.pc + 2).toNat = (s.pc.toNat + 2) % 65536 := BitVec.toNat_add s.pc 2
  obtain ⟨hrun, hcause, hrecord⟩ := exec_brk_run (exec_brk s)
  rw [← stackAddr_eq_slot, ← stackAddr_sub_one, ← stackAddr_sub_two]
  refine ⟨rfl, s.afterBrk, exec_brk s, ?high, ?low, ?status, fun addr haddr => ?mem,
    ?sp, s.flag_afterBrk .i, fun f hf => ?flags, ?pc, hrun, hcause, hrecord, fun r _ => s.reg_afterBrk r⟩
  case high => rw [s.read_afterBrk, State.read_trapEntry_high h, highByte_toNat, hret]
  case low => rw [s.read_afterBrk, State.read_trapEntry_low h, lowByte_toNat, hret]
  case status => rw [s.read_afterBrk, State.read_trapEntry_status h, statusCopy]
  case mem => rw [s.read_afterBrk, State.trapEntry_memKeptBut h _ addr haddr]
  case sp => rw [s.afterBrk_sp]; bv_omega
  case flags => rw [s.flag_afterBrk, if_neg (by simpa using hf)]
  case pc => rw [s.afterBrk_pc, State.trapEntry_pc_eq_vector h, joinBytes_toNat]

/-! ### Trap return (R225, R248) -/

/-- Settles O55: the trap return, whose P is a pulled byte and whose PC is the word pulled next. -/
theorem rtiRestoresStatusAndPc : Obligations.RtiRestoresStatusAndPc := by
  unfold Obligations.RtiRestoresStatusAndPc
  intro s
  obtain ⟨hb2, hb, hflags⟩ := flags_of_statusPulled s.trapReturn_p
  rw [← stackAddr_add_one, ← stackAddr_add_two, ← stackAddr_add_three]
  refine ⟨rfl, s.trapReturn, rfl, hb2, hb, hflags, ?pc, ?sp, fun r _ => s.reg_trapReturn r,
    fun addr _ => s.read_trapReturn addr, s.trapReturn_runState, s.trapReturn_haltCause, s.trapReturn_faultRecord⟩
  case pc => rw [s.trapReturn_pc, joinBytes_toNat]
  case sp => rw [s.trapReturn_sp]; bv_omega

end Sys2Proof.Machine

/-! Exceptions and halting (60_exceptions.md): what a step answers in a state that is Halted and in one that is not
(R241, R243, R254), the host's halt (R255), and the notifications and the end of a run (R252, R253, R275). -/

namespace Sys2Proof.Machine

/-! ### Known and unknown opcode bytes (R94, R241, R252) -/

/-- Two bytes after a known opcode are enough for any operand, so the decoder asks for no more (R82 to R85). -/
theorem exists_decode_of_known {op : Byte} (h : op ∉ unknownOpcodeBytes) (b1 b2 : Byte) :
    ∃ i rest, decode [op, b1, b2] = .ok (i, rest) := by
  rw [mem_unknownOpcodeBytes_iff] at h
  cases hc : opcodeCell op with
  | unknown => exact absurd hc h
  | one | two | three => simp [decode, hc]

theorem State.exists_fetch_of_known {s : State} (h : s.read s.pc ∉ unknownOpcodeBytes) : ∃ i, s.fetch = .ok i := by
  obtain ⟨i, rest, hdecode⟩ := exists_decode_of_known h (s.read (s.pc + 1)) (s.read (s.pc + 2))
  exact ⟨i, State.fetch_of_decode hdecode⟩

theorem State.retires_of_known {s : State} (hrun : s.runState ≠ .halted) (h : s.read s.pc ∉ unknownOpcodeBytes) :
    s.retires = true := by
  obtain ⟨i, hf⟩ := State.exists_fetch_of_known h
  simp [State.retires, State.isHalted, hrun, hf]

theorem State.retires_of_unknown {s : State} (h : s.read s.pc ∈ unknownOpcodeBytes) : s.retires = false := by
  simp [State.retires, State.fetch_of_unknown h]

/-! ### What a step answers (R241, R243, R254) -/

theorem step_of_halted {s : State} (h : s.runState = .halted) :
    step s = .fault (.haltedNoStep s.haltCause s.faultRecord) := by
  simp [step, h]

/-- A step that is taken completes: it runs the instruction of a known byte, or halts the unit at an unknown one. -/
theorem step_known_or_unknown {s : State} (hrun : s.runState ≠ .halted) :
    (s.read s.pc ∉ unknownOpcodeBytes ∧ ∃ i t, exec i s.startStep = .next t ∧ step s = .next t)
      ∨ (s.read s.pc ∈ unknownOpcodeBytes ∧ step s = .next s.startStep.takeUnknownOpcode) := by
  by_cases h : s.read s.pc ∈ unknownOpcodeBytes
  · exact .inr ⟨h, step_of_unknown hrun h⟩
  · obtain ⟨i, hf⟩ := State.exists_fetch_of_known h
    obtain ⟨t, hexec, -⟩ := exec_shape i s.startStep
    exact .inl ⟨h, i, t, hexec, (step_of_fetch hrun hf).trans hexec⟩

theorem exists_step_next_iff (s : State) : (∃ t, step s = .next t) ↔ s.runState ≠ .halted := by
  constructor
  · rintro ⟨t, hstep⟩ hrun
    rw [step_of_halted hrun] at hstep
    cases hstep
  · intro hrun
    obtain ⟨-, i, t, -, hstep⟩ | ⟨-, hstep⟩ := step_known_or_unknown hrun
    · exact ⟨t, hstep⟩
    · exact ⟨_, hstep⟩

/-- Settles O8: every kind of instruction has a next state, and so has the fatal decode failure. -/
theorem decodedInstructionsComplete : Obligations.DecodedInstructionsComplete := by
  unfold Obligations.DecodedInstructionsComplete
  exact ⟨fun i s => (exec_shape i s).imp fun _ h => h.1, exists_step_next_iff⟩

/-! ### The host's halt (R255) -/

theorem State.hostHalt_of_not_halted {s : State} (h : s.runState ≠ .halted) :
    s.hostHalt = { s with runState := .halted, haltCause := .external } := by
  simp [State.hostHalt, h]

theorem State.hostHalt_of_halted {s : State} (h : s.runState = .halted) : s.hostHalt = s := by
  simp [State.hostHalt, h]

theorem State.afterStep_of_halted {s : State} (h : s.runState = .halted) (q : Bool) : s.afterStep q = s := by
  cases q with
  | false => rfl
  | true => exact State.hostHalt_of_halted h

@[simp] theorem State.hostHalt_runState (s : State) : s.hostHalt.runState = .halted := by
  by_cases h : s.runState = .halted
  · rw [State.hostHalt_of_halted h, h]
  · rw [State.hostHalt_of_not_halted h]

/-- Settles O58, in the two cases of the host's halt. -/
theorem externalHaltKeepsEverything : Obligations.ExternalHaltKeepsEverything := by
  unfold Obligations.ExternalHaltKeepsEverything
  exact fun s => ⟨State.hostHalt_of_not_halted, State.hostHalt_of_halted⟩

/-- The host's halt is seen in no register, flag or PC (R252, R255). -/
@[simp] theorem State.observe_afterStep (s : State) (q : Bool) : (s.afterStep q).observe = s.observe := by
  cases q with
  | false => rfl
  | true =>
    rw [State.afterStep_true]
    by_cases h : s.runState = .halted
    · rw [State.hostHalt_of_halted h]
    · rw [State.hostHalt_of_not_halted h]; rfl

/-! ### Runs of no step and of one (R252 to R254) -/

theorem runWithCallback_of_halted {s : State} (h : s.runState = .halted) (requests : List Bool) :
    runWithCallback requests s = (s, []) :=
  runWithCallback_stop (fun t hstep => (exists_step_next_iff s).mp ⟨t, hstep⟩ h) requests

theorem runWithCallback_singleton {s t : State} (h : step s = .next t) (q : Bool) :
    runWithCallback [q] s = (t.afterStep q, if s.retires then [t.observe] else []) := by
  rw [runWithCallback_next h]
  simp [runWithCallback]

/-- Settles O7: a Halted state has no next state, so a run from it is over. -/
theorem haltedTakesNoStep : Obligations.HaltedTakesNoStep := by
  unfold Obligations.HaltedTakesNoStep
  intro s h
  exact ⟨step_of_halted h, by simp [stepEvents, h], runWithCallback_of_halted h⟩

/-- Settles O6: the fatal decode failure, whose step fetches no operand byte and retires nothing. -/
theorem unknownOpcodeHaltsTheUnit : Obligations.UnknownOpcodeHaltsTheUnit := by
  unfold Obligations.UnknownOpcodeHaltsTheUnit
  intro s hrun h
  have hstep := step_of_unknown hrun h
  refine ⟨?next, ?events, fun q => ?silent⟩
  case next => rw [hstep, ofNat_toNat_add]; rfl
  case events => simp [stepEvents, hrun, State.fetch_of_unknown h, State.readEvent]
  case silent => simp [runWithCallback_singleton hstep, State.retires_of_unknown h]

/-- Settles O59: the one turn of the loop, where a known byte retires and an unknown one does not. -/
theorem runNotifiesRetiredInstructions : Obligations.RunNotifiesRetiredInstructions := by
  unfold Obligations.RunNotifiesRetiredInstructions
  intro s t q hrun hstep
  rw [runWithCallback_singleton hstep]
  refine ⟨rfl, fun hknown => ?_, fun hunknown => ?_⟩
  · rw [State.retires_of_known hrun hknown]; rfl
  · rw [State.retires_of_unknown hunknown]; rfl

/-! ### The end of a run (R252, R253, R275) -/

/-- What the end of a run tells about its requests and notifications, beyond the invariant of the state it ends in. -/
structure RunEnd (requests : List Bool) (notified : List Handle) (t : State) : Prop where
  running : t.runState ≠ .halted → notified.length = requests.length ∧ true ∉ requests
  last : t.haltCause = .brk ∨ t.haltCause = .external → notified.getLast? = some t.observe
  requested : t.haltCause = .external → true ∈ requests
  unknown : t.haltCause = .unknownOpcode →
    ∃ r : FaultRecord, t.faultRecord = some r ∧ r.byte ∈ unknownOpcodeBytes ∧ t.read r.pc = r.byte
      ∧ t.pc.toNat = (r.pc.toNat + 1) % 65536 ∧ notified.length < requests.length

theorem RunEnd.nil {s : State} (hcause : s.haltCause = .none) : RunEnd [] [] s where
  running _ := ⟨rfl, List.not_mem_nil⟩
  last h := by simp [hcause] at h
  requested h := by simp [hcause] at h
  unknown h := by simp [hcause] at h

/-- A first step that retires and after which the host asks for nothing adds one notification and one request. -/
theorem RunEnd.cons_false {requests : List Bool} {notified : List Handle} {t : State}
    (h : RunEnd requests notified t) (first : Handle) : RunEnd (false :: requests) (first :: notified) t where
  running hrun := by simpa using h.running hrun
  last hcause := by rw [List.getLast?_cons, h.last hcause]; rfl
  requested hcause := List.mem_cons_of_mem _ (h.requested hcause)
  unknown hcause := by simpa using h.unknown hcause

/-- The last step retired and the unit is Halted after it, by that step or by the host. -/
theorem RunEnd.of_retired {q : Bool} {rest : List Bool} {t : State} (hrun : t.runState = .halted)
    (hcause : t.haltCause = .brk ∨ t.haltCause = .external ∧ q = true) : RunEnd (q :: rest) [t.observe] t where
  running h := absurd hrun h
  last _ := rfl
  requested h := by
    obtain hbrk | ⟨-, rfl⟩ := hcause
    · simp [hbrk] at h
    · exact List.mem_cons_self
  unknown h := by simp [h] at hcause

/-- The last step fetched an unknown byte, which is not notified. -/
theorem RunEnd.of_unknown {s : State} (h : s.read s.pc ∈ unknownOpcodeBytes) (q : Bool) (rest : List Bool) :
    RunEnd (q :: rest) [] s.startStep.takeUnknownOpcode where
  running hrun := absurd rfl hrun
  last hcause := by simp at hcause
  requested hcause := by simp at hcause
  unknown _ := ⟨{ byte := s.read s.pc, pc := s.pc }, rfl, h, rfl, BitVec.toNat_add s.pc 1, Nat.succ_pos _⟩

/-- After an instruction a unit is Halted by BRK, which the host's halt leaves alone, or by the host (R255). -/
theorem haltCause_afterStep_of_exec {i : Instr} {s t : State} {q : Bool} (hrun : s.runState ≠ .halted)
    (hexec : exec i s = .next t) (hhalted : (t.afterStep q).runState = .halted) :
    (t.afterStep q).haltCause = .brk ∨ (t.afterStep q).haltCause = .external ∧ q = true := by
  by_cases ht : t.runState = .halted
  · obtain ⟨hkept, -, -⟩ | rfl := (exec_frame hexec).run
    · exact absurd (hkept.symm.trans ht) hrun
    · obtain ⟨-, hbrk, -⟩ := exec_brk_run hexec
      rw [State.afterStep_of_halted ht]
      exact .inl hbrk
  · cases q with
    | false => exact absurd hhalted ht
    | true => exact .inr ⟨by rw [State.afterStep_true, State.hostHalt_of_not_halted ht], rfl⟩

/-- Turn by turn: a step halts the unit at an unknown byte; or it retires, and then the unit is Halted after the host's
move, or the run goes on from the state after the step. -/
theorem runWithCallback_runEnd {s : State} (hinv : s.Inv) (hrun : s.runState ≠ .halted) (requests : List Bool) :
    RunEnd requests (runWithCallback requests s).2 (runWithCallback requests s).1 := by
  induction requests generalizing s with
  | nil => exact .nil (hinv.not_halted hrun).1
  | cons q rest ih =>
    obtain ⟨hknown, i, t, hexec, hstep⟩ | ⟨hunknown, hstep⟩ := step_known_or_unknown hrun
    · rw [runWithCallback_next hstep, State.retires_of_known hrun hknown]
      by_cases hhalted : (t.afterStep q).runState = .halted
      · rw [runWithCallback_of_halted hhalted, ← t.observe_afterStep q]
        exact .of_retired hhalted (haltCause_afterStep_of_exec (by simp) hexec hhalted)
      · cases q with
        | false => exact (ih (stepKeepsInvariant s t hinv hstep) hhalted).cons_false t.observe
        | true => exact absurd t.hostHalt_runState hhalted
    · rw [runWithCallback_next hstep, State.retires_of_unknown hunknown,
        State.afterStep_of_halted (State.takeUnknownOpcode_runState _), runWithCallback_of_halted rfl]
      exact .of_unknown hunknown q rest

/-- A state with another cause than an unknown opcode has no record (R33). -/
theorem State.Inv.faultRecord_eq_none {s : State} (h : s.Inv) (hcause : s.haltCause ≠ .unknownOpcode) :
    s.faultRecord = none := by
  obtain ⟨-, -, -, -, hrecord⟩ := h
  exact Option.not_isSome_iff_eq_none.mp (mt hrecord.mp hcause)

/-- Settles O60: what the run tells of its end, and the invariant of the state it ends in. -/
theorem runEndsAsItsCauseSays : Obligations.RunEndsAsItsCauseSays := by
  unfold Obligations.RunEndsAsItsCauseSays
  intro requests s t notified hinv hrun heq
  have hend := runWithCallback_runEnd hinv hrun requests
  have ht := hinv.runWithCallback requests
  rw [heq] at hend ht
  have ⟨_, _, _, hcause, _⟩ := ht
  refine ⟨hend.running, fun hhalted hnone => hcause.mp hnone hhalted, fun hbrk => ?brk, fun hext => ?external,
    hend.unknown⟩
  case brk => exact ⟨hend.last (.inl hbrk), ht.faultRecord_eq_none (by simp [hbrk])⟩
  case external => exact ⟨hend.last (.inr hext), ht.faultRecord_eq_none (by simp [hext]), hend.requested hext⟩

end Sys2Proof.Machine
